-- ==== Sys2Proof/Word.lean ====
section
/-! DEFINITION. The word types of the part and the numbers that name its nodes, slots, entries and frames. -/

namespace Sys2Proof

abbrev Byte := BitVec 8
abbrev Half := BitVec 16
abbrev Word := BitVec 32

/-- A node number, 0 to 3 (section 0.7). -/
abbrev NodeId := Fin 4
/-- An order slot, 0 to 31 (section 9.1). -/
abbrev SlotId := Fin 32
/-- A watch entry, 0 to 31 (R106). -/
abbrev WatchId := Fin 32
/-- A transfer entry, 0 to 31 (section 8.5). -/
abbrev EntryId := Fin 32
/-- A frame, 0 to 95 (R146). -/
abbrev FrameId := Fin 96

/-- The vector of the images, index by index. -/
def vmap {α β : Type} {n : Nat} (v : Vector α n) (f : α → β) : Vector β n := Vector.ofFn fun i => f (v.get i)

end Sys2Proof
end

