-- ==== Sys2Proof/Syntax.lean ====
section
/-! DEFINITION. The commands of the part: one constructor per row of spec/opcode_table.json. The table gives no operands;
those below are the model's (assumptions 6, 7, 9 and 10). -/

namespace Sys2Proof

/-- A record that carries an event_ack word (R173). -/
inductive AckRecord where
  | shelf
  | node (n : NodeId)
deriving DecidableEq, Repr

/-- A bus on which registers are written: the management bus's second chip select (section 10.4), or a node service bus
(section 7.1). -/
inductive RegBus where
  | management
  | node (n : NodeId)
deriving DecidableEq, Repr

/-- A supply pin (R32). -/
inductive SupplyPin where
  | a
  | b
deriving DecidableEq, Repr

inductive Instr where
  -- Orders: the management processor writes the slot's header word (code, target, flags) and then POSTED (R161).
  | powerOn (slot : SlotId) (target flags : Byte)
  | powerOff (slot : SlotId) (target flags : Byte)
  | forceOff (slot : SlotId) (target flags : Byte)
  | reset (slot : SlotId) (target flags : Byte)
  | resetIfHung (slot : SlotId) (target flags : Byte)
  | cycle (slot : SlotId) (target flags : Byte)
  | nmi (slot : SlotId) (target flags : Byte)
  | inject (slot : SlotId) (target flags : Byte)
  | uartSet (slot : SlotId) (target flags : Byte)
  | journalLayout (slot : SlotId) (target flags : Byte)
  | tailFreeze (slot : SlotId) (target flags : Byte)
  | tailRelease (slot : SlotId) (target flags : Byte)
  | watchSet (slot : SlotId) (target flags : Byte)
  | watchClear (slot : SlotId) (target flags : Byte)
  | watchRearm (slot : SlotId) (target flags : Byte)
  | attach (slot : SlotId) (target flags : Byte)
  | detach (slot : SlotId) (target flags : Byte)
  | budgetSet (slot : SlotId) (target flags : Byte)
  | profileSet (slot : SlotId) (target flags : Byte)
  | livenessSet (slot : SlotId) (target flags : Byte)
  | capture (slot : SlotId) (target flags : Byte)
  | unknownOrder (slot : SlotId) (code target flags : Byte)
  -- Management-bus writes of exchange memory.
  | slotFree (slot : SlotId)
  /-- Word number of the exchange window (offset divided by 4), byte lanes, data. -/
  | exchangeWrite (word : BitVec 18) (lanes : BitVec 4) (data : Word)
  | fenceHiWrite (node : NodeId) (data : Word)
  | eventAckWrite (record : AckRecord) (data : Word)
  | fetchFilled (entry : EntryId)
  | fetchFailed (entry : EntryId)
  | flushFlushed (entry : EntryId)
  | flushFailed (entry : EntryId)
  -- Register writes.
  | softResetHold (imode ien : Bool)
  | softResetRelease (imode ien : Bool)
  | interruptControlWrite (imode ien : Bool)
  | attnWrite (data : Word)
  | attnEnWrite (data : Word)
  | registerWrite (bus : RegBus) (offset data : Word)
  | fullReset
  | initializationEnd
  -- Pins.
  | presFall (node : NodeId)
  | presRise (node : NodeId)
  | pgoodRise (node : NodeId)
  | pgoodFall (node : NodeId)
  /-- `level` true is the rise; false carries the fall, which the table gives no row and on which nothing acts. -/
  | slpOffRise (node : NodeId) (level : Bool)
  /-- `level` true is the rising edge; false carries the fall, which is not counted (R52). -/
  | hbeatRise (node : NodeId) (level : Bool)
  | supplyPinChange (pin : SupplyPin)
  -- Timers.
  | inrushTimerExpiry (node : NodeId)
  | powerGoodTimerExpiry (node : NodeId)
  | resetTimerExpiry (node : NodeId)
  | gateTimerExpiry (node : NodeId)
  | bootTimerExpiry (node : NodeId)
  | buttonTimerExpiry (node : NodeId)
  | stopTimerExpiry (node : NodeId)
  | nmiTimerExpiry (node : NodeId)
  | dwellTimerExpiry (node : NodeId)
  | admissionTimerExpiry (node : NodeId)
  | staggerTimerExpiry
  | heartbeatWindowExpiry (node : NodeId)
  | silenceWindowExpiry (node : NodeId)
  | idleFlushTimerExpiry (node : NodeId)
  | holdoffTimerExpiry (entry : WatchId) (node : NodeId)
  | waitTimerExpiry (node : NodeId)
  | flushAgeExpiry (frame : FrameId)
  -- Console lines.
  /-- The samples of the frame just ended: the data bits (bit 0 first), the parity bit, the stop bits (R72). -/
  | rxDataByte (node : NodeId) (data : Byte) (parity stop1 stop2 : Bool)
  | rxBreak (node : NodeId)
  | stringItemSent (node : NodeId)
  | breakItemEnd (node : NodeId)
  | breakGuardEnd (node : NodeId)
  | attnIntPulseEnd
  | deferredShowing (node : NodeId)
  -- The node's accesses to its Media Port.
  | read (node : NodeId)
  | write (node : NodeId)
  | identify (node : NodeId)
  | flush (node : NodeId)
  | badCommand (node : NodeId) (command : Word)
  | mpStatRead (node : NodeId)
  | mpDataRead (node : NodeId)
  | mpDataWrite (node : NodeId) (data : Word)
  | portResetSet (node : NodeId) (ie : Bool)
  | portResetRelease (node : NodeId) (ie : Bool)
  | interruptEnableWrite (node : NodeId) (ie : Bool)
  -- The receive framer.
  | rxdStartEdge (node : NodeId)
  | rxFalseStart (node : NodeId)
  | rxdMarkReturn (node : NodeId)
deriving DecidableEq, Repr

end Sys2Proof
end

