-- ==== Sys2Proof/Machine/Bytes.lean ====
section
/-! DEFINITION. Byte order (R178: the least significant byte at the lowest address) and the reading of fields from a list of
bytes. -/

namespace Sys2Proof.Machine

def byteOf (n : Nat) : Byte := BitVec.ofNat 8 n

def boolByte (b : Bool) : Byte := if b then 1 else 0

def le16 (n : Nat) : List Byte := [byteOf n, byteOf (n / 0x100)]

def le32 (n : Nat) : List Byte := [byteOf n, byteOf (n / 0x100), byteOf (n / 0x10000), byteOf (n / 0x1000000)]

def le64 (n : Nat) : List Byte := le32 n ++ le32 (n / 0x100000000)

def leWord (w : Word) : List Byte := le32 w.toNat

/-- The first `n` bytes of `p`, filled up with zeros. -/
def padTo (n : Nat) (p : List Byte) : List Byte := (p ++ List.replicate n 0).take n

/-- The fields of a byte list; bytes beyond its end read as 0. -/
def byteAt (p : List Byte) (i : Nat) : Nat := (p.getD i 0).toNat

def halfAt (p : List Byte) (i : Nat) : Nat := byteAt p i + 0x100 * byteAt p (i + 1)

def longAt (p : List Byte) (i : Nat) : Nat := halfAt p i + 0x10000 * halfAt p (i + 2)

def wordAt (p : List Byte) (i : Nat) : Word := BitVec.ofNat 32 (longAt p i)

def bytesAt (p : List Byte) (i n : Nat) : List Byte := padTo n (p.drop i)

/-- The bytes of a word write with byte lanes: lane i carries byte i of the data, the other bytes stay (R170). -/
def mergeLanes (lanes : BitVec 4) (old : List Byte) (data : Word) : List Byte :=
  let new := leWord data
  [0, 1, 2, 3].map fun i => if lanes.getLsbD i then new.getD i 0 else old.getD i 0

end Sys2Proof.Machine
end

