-- ==== Sys2Proof/Config.lean ====
section
/-! DEFINITION. Constants of the exchange map (section 10.1) and the free values of the model: constants with no body, so
that no proof can see what they are. -/

namespace Sys2Proof.Config

/-- Bytes of exchange memory. -/
def exchangeSize : Nat := 0x100000
def shelfBase : Nat := 0x00000
def nodeBase : Nat := 0x00100
def entryBase : Nat := 0x00800
def slotBase : Nat := 0x01000
def watchBase : Nat := 0x03000
def frameTableBase : Nat := 0x04000
def identityBase : Nat := 0x04600
def scratchBase : Nat := 0x04800
def journalBase : Nat := 0x10000
def frameBase : Nat := 0x50000
def captureBase : Nat := 0xB0000
def topScratchBase : Nat := 0xF0000

/-- REFCLK in hertz (section 0.5, R69). -/
def refclk : Nat := 48000000

/-- Free value: what the 32-bit counter field of a node record or capture header shows for an image byte counter of 2^32
or more. R130 lets the counter run to 2^41 and the tables of section 10.6 give the field 32 bits; no rule says which 32.
Assumption 12. -/
opaque counterField : Nat → Word

/-- Free value: what the 8-bit count field of the command in progress shows for a count of 256 or more, which an IDENTIFY
or a FLUSH can take from MP_COUNT (R130, section 10.6). Assumption 12. -/
opaque countField : Nat → Byte

end Sys2Proof.Config
end

