-- ==== Sys2Proof/Machine/State.lean ====
section
/-! DEFINITION. The state of the part as plain data: every register, list, counter, timer and pin the manual gives it, and
the queue of commands that wait. What the manual shows twice (outputs, records, flags that follow other state) is stored
once and computed where it is read. -/

namespace Sys2Proof.Machine

/-- What stops the part. -/
inductive Fault where
  /-- Raised by REGISTER_WRITE at a node service bus offset that is none of the eight registers of section 10.6: an address
  at which the manual gives the part nothing. Safe: the model stops. -/
  | noPortRegister
deriving DecidableEq, Repr

/-- What the model declines to run. -/
inductive Refusal where
  /-- Raised by `exec` for a command that has no meaning yet. Safe: the model stops. -/
  | notModelled (mnemonic : String)
deriving DecidableEq, Repr

/-- The exchange RAM: cells with addresses strictly rising, none holding the byte an unlisted address reads as. -/
abbrev Memory := List Host.Cell

/-- A running timer: its duration and the milliseconds elapsed since it started (section 1.2). A stopped timer is `none`
in an `Option Timer`. -/
structure Timer where
  duration : Nat
  elapsed : Nat
deriving DecidableEq, Repr

/-! ### Orders and results -/

/-- Results of section 9.4. -/
inductive Result where
  | complete | unknownOrder | invalidParameter | nodeAbsent | busy | incorrectState | noBudget | undetermined
  | superseded | timeout | faulted | aborted | escalated
deriving DecidableEq, Repr

/-- A result field of a part-originated order's source: nothing yet, in progress, or ended (R57, R107). -/
inductive LastResult where
  | none
  | accepted
  | ended (r : Result)
deriving DecidableEq, Repr

/-- Where a power order or a transmit item comes from (R6, R78). -/
inductive OrderSrc where
  | slot (k : SlotId)
  | watch (i : WatchId)
  | hang
  | shed
deriving DecidableEq, Repr

/-- The power orders, codes 0x01 to 0x07 (section 1.3). -/
inductive PowerCode where
  | powerOn | powerOff | forceOff | reset | resetIfHung | cycle | nmi
deriving DecidableEq, Repr

/-- The power order in progress (R6), with the detail gathered so far (R8, R15). -/
structure PowerOrder where
  code : PowerCode
  src : OrderSrc
  flags : Byte
  since : Word
  detail : Word
deriving DecidableEq, Repr

/-- The last completed power order as the node record shows it (R4, R8). -/
structure LastOrder where
  code : Byte
  result : Byte
  detail : Word
  time : Word
deriving DecidableEq, Repr

/-- A slot's states outside the post event (R160). -/
inductive SlotState where
  | free | accepted | done
deriving DecidableEq, Repr

/-- The unit that holds an accepted order (R166). -/
inductive Binding where
  | power (n : NodeId)
  | item (n : NodeId)
  | detach (n : NodeId)
deriving DecidableEq, Repr

/-- The Order Engine's copy of a slot (chapter 9, opening; R161). -/
structure SlotCopy where
  st : SlotState
  code : Byte
  target : Byte
  flags : Byte
  params : List Byte
  binding : Option Binding
deriving DecidableEq, Repr

/-! ### Power Sequencer -/

/-- The ten node states of section 1.1. -/
inductive PState where
  | absent | off | queued | inrush | gated | booting | running | stopping | dwell | fault
deriving DecidableEq, Repr

inductive FaultReason where
  | none | noPgood | pgoodLost
deriving DecidableEq, Repr

inductive Prefetch where
  | none | waiting | resident
deriving DecidableEq, Repr

/-- A node's profile (section 1.9): watts, milliseconds, and seconds where a name ends in `S`. -/
structure Profile where
  standbyW : Nat
  inrushW : Nat
  bootW : Nat
  steadyW : Nat
  inrushMs : Nat
  pgTimeoutMs : Nat
  resetMs : Nat
  gateTimeoutMs : Nat
  bootTimeoutS : Nat
  buttonMs : Nat
  stopTimeoutS : Nat
  nmiMs : Nat
  offDwellMs : Nat
  admissionTimeoutS : Nat
  shedRank : Nat
deriving DecidableEq, Repr

/-- A node's Power Sequencer (chapter 1). `admT` is the admission timer the Shelf Budget Unit keeps for the node (R38). -/
structure Sequencer where
  pst : PState
  since : Word
  boot : Half
  faultReason : FaultReason
  prefetch : Prefetch
  order : Option PowerOrder
  last : LastOrder
  pgSeen : Bool
  inrushT : Option Timer
  pgT : Option Timer
  resetT : Option Timer
  gateT : Option Timer
  bootT : Option Timer
  buttonT : Option Timer
  stopT : Option Timer
  nmiT : Option Timer
  dwellT : Option Timer
  admT : Option Timer
  profile : Profile
deriving DecidableEq, Repr

/-- The levels of a node's inputs (section 0.5). -/
structure Pins where
  pgood : Bool
  slpOff : Bool
  pres : Bool
  hbeat : Bool
deriving DecidableEq, Repr

/-! ### Liveness -/

inductive HangAction where
  | none | nmi | reset | cycle
deriving DecidableEq, Repr

/-- The last hang action (section 3.1). -/
structure HangRecord where
  action : HangAction
  time : Word
  result : LastResult
deriving DecidableEq, Repr

/-- A node's liveness settings and state (section 3.1). `hbAge` and `silAge` count the milliseconds since the two origins
and stop at the greatest window (assumption 30). -/
structure Liveness where
  hbWindow : Nat
  silWindow : Nat
  action : HangAction
  limit : Nat
  edges : Nat
  hbOrigin : Word
  silOrigin : Word
  hbAge : Nat
  silAge : Nat
  hbReached : Bool
  silReached : Bool
  hung : Bool
  hungSince : Word
  recovery : Nat
  lastHang : Option HangRecord
deriving DecidableEq, Repr

/-! ### Console Channel -/

inductive Parity where
  | none | even | odd
deriving DecidableEq, Repr

/-- The six settings of UART_SET (section 4.1). -/
structure UartSettings where
  baud : Nat
  dataBits : Nat
  parity : Parity
  stopBits : Nat
  flowHold : Bool
  idleFlushMs : Nat
deriving DecidableEq, Repr

/-- The settings that shape one character frame, as the framer took them at the start bit (R71). -/
structure FrameFormat where
  dataBits : Nat
  parity : Parity
  stopBits : Nat
deriving DecidableEq, Repr

/-- The receive framer (section 4.4). -/
inductive Framer where
  | markWait
  | idle
  | frame (fmt : FrameFormat)
deriving DecidableEq, Repr

/-- The item of an INJECT (R78). -/
inductive TxPayload where
  | string (text : List Byte)
  | brk (ms : Nat)
deriving DecidableEq, Repr

structure TxItem where
  payload : TxPayload
  src : OrderSrc
deriving DecidableEq, Repr

/-- What the transmitter drives (R81). -/
inductive TxPhase where
  | idle
  | string
  | brk (t : Timer)
  | guard
deriving DecidableEq, Repr

structure Channel where
  settings : UartSettings
  divisor : Nat
  errorPpm : Nat
  framer : Framer
  rxd : Bool
  rxBytes : Word
  framing : Nat
  breaks : Nat
  idleT : Option Timer
  txq : List TxItem
  tx : TxPhase
deriving DecidableEq, Repr

/-! ### Journal Writer -/

structure Layout where
  base : Nat
  pinned : Nat
  body : Nat
  tail : Nat
  lossless : Bool
deriving DecidableEq, Repr

/-- The flags an ended line can carry (R86). -/
structure LineFlags where
  cont : Bool
  partialEnd : Bool
  brk : Bool
  framing : Bool
deriving DecidableEq, Repr

/-- A line as it stands after its end: what R86 fixes at the start and at the end. -/
structure Line where
  boot : Half
  time : Word
  flags : LineFlags
  lost : Nat
  text : List Byte
deriving DecidableEq, Repr

/-- The assembler's blocked state behind a pending line (R97): a full line not yet ended, or an ended line. -/
inductive Blocked where
  | taking
  | full
  | ended (l : Line)
deriving DecidableEq, Repr

/-- The line assembler (section 5.3). -/
structure Assembler where
  text : List Byte
  cr : Bool
  framing : Bool
  lost : Nat
  contDue : Bool
  blocked : Blocked
deriving DecidableEq, Repr

inductive TailReason where
  | none | fault | hung | watch | order
deriving DecidableEq, Repr

/-- The tail record (R85). -/
structure Tail where
  held : Bool
  count : Nat
  reason : TailReason
  time : Word
  firstSeq : Word
deriving DecidableEq, Repr

structure Journal where
  layout : Option Layout
  lastSeq : Word
  pinnedCount : Nat
  bodyCount : Nat
  fence : Nat
  asm : Assembler
  pendingLine : Option Line
  drop : Nat
  markersLost : Nat
  tail : Tail
  tailMissed : Nat
deriving DecidableEq, Repr

/-! ### Watch Matcher -/

inductive ArmMode where
  | once | every | perBoot
deriving DecidableEq, Repr

/-- The orders an ORDER action can issue (R106), other than CAPTURE. -/
inductive WatchAction where
  | note
  | inject (item : TxPayload)
  | power (code : PowerCode) (flags : Byte)
  | capture (slot : Nat)
  | bootDone
  | freezeTail
  | mark
deriving DecidableEq, Repr

/-- The fields of a watch entry (R106). `pattern` holds exactly the L pattern bytes, each with its wild flag. -/
structure WatchFields where
  nodeSet : BitVec 4
  pattern : List (Byte × Bool)
  fold : Bool
  action : WatchAction
  arm : ArmMode
  holdoffMs : Nat
deriving DecidableEq, Repr

/-- The record of one pair of entry and node (R107). -/
structure Pair where
  armed : Bool
  fired : Bool
  lastFire : Word
  fireCount : Nat
  suppressed : Nat
  result : LastResult
  holdoffT : Option Timer
deriving DecidableEq, Repr

/-- A watch entry: never set since full reset (`fields = none`), or set, and valid or not (R106, R122). -/
structure WatchEntry where
  valid : Bool
  fields : Option WatchFields
  pairs : Vector Pair 4
deriving DecidableEq, Repr

/-! ### Media Port and Frame Controller -/

inductive EndCode where
  | none | badCommand | badCount | outOfRange | noMedia | changed | writeProtected | timeout | imageError | reset
deriving DecidableEq, Repr

inductive MediaCmd where
  | read | write | identify | flush
deriving DecidableEq, Repr

/-- The command in progress (R130). `counter` is an image byte address, or an offset in the identity block. `moved`: a
data-port read of this command has already moved the counter's frame to the tail of the clean list (R150). -/
structure PortCmd where
  kind : MediaCmd
  first : Nat
  count : Nat
  counter : Nat
  moved : Bool
deriving DecidableEq, Repr

/-- A Media Port (chapter 7). -/
structure Port where
  cmdWord : Word
  block : Word
  count : Word
  err : EndCode
  done : Bool
  error : Bool
  changed : Bool
  ie : Bool
  rst : Bool
  cmd : Option PortCmd
  lastCode : Byte
  lastEnd : EndCode
  lastTime : Word
  waitT : Option Timer
  busData : Word
deriving DecidableEq, Repr

inductive AttachState where
  | none | attached | detaching
deriving DecidableEq, Repr

inductive DetachKind where
  | plain | force
deriving DecidableEq, Repr

inductive TransferKind where
  | fetch | flush
deriving DecidableEq, Repr

structure Failure where
  kind : TransferKind
  tag : Nat
  result : Word
deriving DecidableEq, Repr

/-- The figures of an attachment (section 8.1). -/
structure AttachFigures where
  capacity : Nat
  readOnly : Bool
  quota : Nat
  fetchTimeoutMs : Nat
  flushAgeMs : Nat
  dirtyLimit : Nat
  model : List Byte
  serial : List Byte
deriving DecidableEq, Repr

/-- A node's attachment record, the counts beside it and its dirty list, oldest first (R141, R147). -/
structure Attachment where
  st : AttachState
  fig : AttachFigures
  detach : Option DetachKind
  detachSlot : Nat
  attachNumber : Half
  discarded : Nat
  lateFills : Nat
  fetchFailures : Nat
  flushFailures : Nat
  lastFailure : Option Failure
  dirty : List FrameId
deriving DecidableEq, Repr

inductive FrameState where
  | free | filling | clean | dirty | flushing | assembling
deriving DecidableEq, Repr

/-- A frame table entry (R146): state, the owning node and tag while not FREE, expired flag, dirty-since, and the age
trigger of R158. The held flag is computed (`held`). -/
structure Frame where
  st : FrameState
  own : Option (NodeId × Nat)
  expired : Bool
  dirtySince : Word
  ageT : Option Timer
deriving DecidableEq, Repr

inductive EntryState where
  | free | fetchPosted | flushPosted
deriving DecidableEq, Repr

/-- A transfer entry (section 8.5). FILLED, FLUSHED and FAILED exist only within the return event. -/
structure Entry where
  st : EntryState
  kind : Option TransferKind
  node : Nat
  first : Nat
  count : Nat
  offset : Nat
  time : Word
  result : Word
  frame : FrameId
deriving DecidableEq, Repr

/-- A transfer request in the wait list (R155). -/
structure Request where
  kind : TransferKind
  frame : FrameId
deriving DecidableEq, Repr

/-- A waiting allocation: of a port's command, or of a node's prefetch (R149). -/
inductive Waiter where
  | command (n : NodeId)
  | prefetch (n : NodeId)
deriving DecidableEq, Repr

/-! ### Shelf Budget Unit -/

structure BudgetCfg where
  bcfg : Nat
  headroom : Nat
  f2 : Nat
  f1 : Nat
  f0 : Nat
  staggerMs : Nat
  shedEnable : Bool
deriving DecidableEq, Repr

inductive ShedKind where
  | powerOff | forceOff
deriving DecidableEq, Repr

structure Shed where
  node : NodeId
  rank : Nat
  kind : ShedKind
  since : Word
deriving DecidableEq, Repr

/-- The Shelf Budget Unit and the shelf's part of the EMC. `sampleA` and `sampleB` are the supply pin levels as last taken
(R32, R50): the levels themselves are `supplyA` and `supplyB` of State. -/
structure Shelf where
  cfg : BudgetCfg
  sampleA : Bool
  sampleB : Bool
  isOver : Bool
  overSince : Word
  queue : List NodeId
  admitted : Bool
  lastAdmission : Word
  staggerT : Option Timer
  shed : Option Shed
  lastShed : Option (NodeId × Result)
  dirtyLost : Nat
  events : Word
  ack : Word
deriving DecidableEq, Repr

/-- The number of supply pins asserted (R32). -/
def supplyCount (a b : Bool) : Nat := a.toNat + b.toNat

/-- s, the supply count (R32). -/
def Shelf.supplies (h : Shelf) : Nat := supplyCount h.sampleA h.sampleB

/-! ### The whole -/

/-- What the part holds for one bay. -/
structure Node where
  sq : Sequencer
  lv : Liveness
  ch : Channel
  jr : Journal
  port : Port
  att : Attachment
  hist : List Byte
  events : Word
  ack : Word
  fenceLo : Word
  fenceHi : Word
  pins : Pins
deriving DecidableEq, Repr

/-- The values of a node record's deferred fields as they were last written into it (R4, R51, R68, R127). -/
structure Shown where
  edges : Nat
  hbOrigin : Word
  silOrigin : Word
  rxBytes : Word
  framing : Nat
  counter : Nat
  pins : Pins
deriving DecidableEq, Repr

/-- The EMC's bookkeeping of one node record: its update count (R172), what it shows, and the 100 ms within which a deferred
change is to be shown. -/
structure NodeRecord where
  count : Word
  shown : Shown
  staleT : Option Timer
deriving DecidableEq, Repr

/-- The update counts and shown values of all records (R172). -/
structure Records where
  shelf : Word
  nodes : Vector NodeRecord 4
  watch : Vector Word 32
deriving DecidableEq, Repr

structure State where
  mem : Memory
  msclk : Word
  init : Bool
  hold : Bool
  imode : Bool
  ien : Bool
  attn : Byte
  attnEn : Byte
  refused : Nat
  pulse : Bool
  supplyA : Bool
  supplyB : Bool
  shelf : Shelf
  nodes : Vector Node 4
  slots : Vector SlotCopy 32
  watch : Vector WatchEntry 32
  frames : Vector Frame 96
  clean : List FrameId
  entries : Vector Entry 32
  waitList : List Request
  waits : List Waiter
  records : Records
  pending : List Instr
deriving DecidableEq, Repr

/-! ### Reset values -/

/-- The profile after full reset (section 1.9). -/
def Profile.default : Profile :=
  { standbyW := 0, inrushW := 0, bootW := 0, steadyW := 0, inrushMs := 1000, pgTimeoutMs := 3000, resetMs := 200,
    gateTimeoutMs := 10000, bootTimeoutS := 0, buttonMs := 500, stopTimeoutS := 120, nmiMs := 100, offDwellMs := 5000,
    admissionTimeoutS := 0, shedRank := 0 }

/-- R29: OFF if PRES is high and ABSENT if PRES is low. -/
def Sequencer.full (pres : Bool) : Sequencer :=
  { pst := if pres then .off else .absent, since := 0, boot := 0, faultReason := .none, prefetch := .none,
    order := none, last := { code := 0, result := 0, detail := 0, time := 0 }, pgSeen := false, inrushT := none,
    pgT := none, resetT := none, gateT := none, bootT := none, buttonT := none, stopT := none, nmiT := none,
    dwellT := none, admT := none, profile := .default }

/-- R64. -/
def Liveness.full : Liveness :=
  { hbWindow := 0, silWindow := 0, action := .none, limit := 3, edges := 0, hbOrigin := 0, silOrigin := 0, hbAge := 0,
    silAge := 0, hbReached := false, silReached := false, hung := false, hungSince := 0, recovery := 0,
    lastHang := none }

/-- Section 4.1. -/
def UartSettings.default : UartSettings :=
  { baud := 115200, dataBits := 8, parity := .none, stopBits := 1, flowHold := false, idleFlushMs := 500 }

/-- R84; the level of RXD is the input's. -/
def Channel.full (rxd : Bool) : Channel :=
  { settings := .default, divisor := 26, errorPpm := 1602, framer := .markWait, rxd := rxd, rxBytes := 0, framing := 0,
    breaks := 0, idleT := none, txq := [], tx := .idle }

def Assembler.empty : Assembler :=
  { text := [], cr := false, framing := false, lost := 0, contDue := false, blocked := .taking }

def Tail.empty : Tail := { held := false, count := 0, reason := .none, time := 0, firstSeq := 0 }

/-- R104. -/
def Journal.full : Journal :=
  { layout := none, lastSeq := 0, pinnedCount := 0, bodyCount := 0, fence := 0, asm := .empty, pendingLine := none,
    drop := 0, markersLost := 0, tail := .empty, tailMissed := 0 }

/-- R140. That the empty last ended command shows code 0, end code 0 and time 0 is the model's choice (assumption 44). -/
def Port.full : Port :=
  { cmdWord := 0, block := 0, count := 0, err := .none, done := false, error := false, changed := false, ie := false,
    rst := false, cmd := none, lastCode := 0, lastEnd := .none, lastTime := 0, waitT := none, busData := 0xFFFFFFFF }

/-- R159. -/
def Attachment.full : Attachment :=
  { st := .none,
    fig := { capacity := 0, readOnly := false, quota := 0, fetchTimeoutMs := 0, flushAgeMs := 0, dirtyLimit := 0,
             model := List.replicate 24 0, serial := List.replicate 16 0 },
    detach := none, detachSlot := 0, attachNumber := 0, discarded := 0, lateFills := 0, fetchFailures := 0,
    flushFailures := 0, lastFailure := none, dirty := [] }

/-- A node after full reset, with its input levels as they are. -/
def Node.full (pins : Pins) (rxd : Bool) : Node :=
  { sq := .full pins.pres, lv := .full, ch := .full rxd, jr := .full, port := .full, att := .full, hist := [],
    events := 0, ack := 0, fenceLo := 0, fenceHi := 0, pins := pins }

/-- R107, R124. -/
def Pair.full : Pair :=
  { armed := false, fired := false, lastFire := 0, fireCount := 0, suppressed := 0, result := .none, holdoffT := none }

def WatchEntry.full : WatchEntry := { valid := false, fields := none, pairs := Vector.replicate 4 .full }

def Frame.full : Frame := { st := .free, own := none, expired := false, dirtySince := 0, ageT := none }

def Entry.full : Entry :=
  { st := .free, kind := none, node := 0, first := 0, count := 0, offset := 0, time := 0, result := 0, frame := 0 }

def SlotCopy.full : SlotCopy :=
  { st := .free, code := 0, target := 0, flags := 0, params := List.replicate 200 0, binding := none }

/-- R49. -/
def Shelf.full (a b : Bool) : Shelf :=
  { cfg := { bcfg := 0, headroom := 0, f2 := 100, f1 := 50, f0 := 0, staggerMs := 0, shedEnable := false },
    sampleA := a, sampleB := b, isOver := false, overSince := 0, queue := [], admitted := false, lastAdmission := 0,
    staggerT := none, shed := none, lastShed := none, dirtyLost := 0, events := 0, ack := 0 }

def Shown.full (pins : Pins) : Shown :=
  { edges := 0, hbOrigin := 0, silOrigin := 0, rxBytes := 0, framing := 0, counter := 0, pins := pins }

def NodeRecord.full (pins : Pins) : NodeRecord := { count := 0, shown := .full pins, staleT := none }

/-- The state a full reset gives every block (R29, R49, R64, R84, R104, R124, R140, R159, R168, R176), over the input
levels, the RAM and the queue, which it does not set. -/
def State.full (mem : Memory) (pins : Vector Pins 4) (rxd : Vector Bool 4) (a b : Bool) (pending : List Instr) : State :=
  { mem := mem, msclk := 0, init := true, hold := false, imode := false, ien := false, attn := 0, attnEn := 0,
    refused := 0, pulse := false, supplyA := a, supplyB := b, shelf := .full a b,
    nodes := Vector.ofFn fun i => .full (pins.get i) (rxd.get i),
    slots := Vector.replicate 32 .full, watch := Vector.replicate 32 .full, frames := Vector.replicate 96 .full,
    clean := [], entries := Vector.replicate 32 .full, waitList := [], waits := [],
    records := { shelf := 0, nodes := vmap pins NodeRecord.full, watch := Vector.replicate 32 0 },
    pending := pending }

/-- All input pins low: the levels the model takes at reset (assumption 4). -/
def Pins.low : Pins := { pgood := false, slpOff := false, pres := false, hbeat := false }

/-- The machine right after reset: a full reset whose initialization has ended, every input pin low, the RAM empty and the
queue empty (assumptions 4 and 5). -/
def State.reset : State :=
  { State.full [] (Vector.replicate 4 .low) (Vector.replicate 4 false) false false [] with init := false }

end Sys2Proof.Machine
end

