-- ==== Sys2Proof/Machine/Codes.lean ====
section
/-! DEFINITION. The code values of sections 1.1, 7.1, 7.3, 9.2, 9.4, 10.3 and 10.6. -/

namespace Sys2Proof.Machine

/-- Section 9.4. -/
def Result.code : Result → Nat
  | .complete => 0 | .unknownOrder => 1 | .invalidParameter => 2 | .nodeAbsent => 3 | .busy => 4 | .incorrectState => 5
  | .noBudget => 6 | .undetermined => 7 | .superseded => 8 | .timeout => 9 | .faulted => 10 | .aborted => 11
  | .escalated => 12

/-- Section 1.1. -/
def PState.code : PState → Nat
  | .absent => 0 | .off => 1 | .queued => 2 | .inrush => 3 | .gated => 4 | .booting => 5 | .running => 6
  | .stopping => 7 | .dwell => 8 | .fault => 9

/-- Section 9.2. -/
def PowerCode.code : PowerCode → Nat
  | .powerOn => 1 | .powerOff => 2 | .forceOff => 3 | .reset => 4 | .resetIfHung => 5 | .cycle => 6 | .nmi => 7

def FaultReason.code : FaultReason → Nat
  | .none => 0 | .noPgood => 1 | .pgoodLost => 2

def Prefetch.code : Prefetch → Nat
  | .none => 0 | .waiting => 1 | .resident => 2

def HangAction.code : HangAction → Nat
  | .none => 0 | .nmi => 1 | .reset => 2 | .cycle => 3

/-- The order a hang action issues (R57). -/
def HangAction.order : HangAction → Option PowerCode
  | .none => Option.none | .nmi => some .nmi | .reset => some .reset | .cycle => some .cycle

/-- Node record 0x20: slot number, watch index + 0x20, 0x40 HANG, 0x41 SHED. -/
def OrderSrc.code : OrderSrc → Nat
  | .slot k => k.val | .watch i => i.val + 0x20 | .hang => 0x40 | .shed => 0x41

/-- last_result and hang_result: 0xFF NONE, 0x80 ACCEPTED, else the result code. -/
def LastResult.code : LastResult → Nat
  | .none => 0xFF | .accepted => 0x80 | .ended r => r.code

def SlotState.code : SlotState → Nat
  | .free => 0 | .accepted => 2 | .done => 3

def Parity.code : Parity → Nat
  | .none => 0 | .even => 1 | .odd => 2

def TxPayload.code : TxPayload → Nat
  | .string _ => 1 | .brk _ => 2

def TailReason.code : TailReason → Nat
  | .none => 0 | .fault => 1 | .hung => 2 | .watch => 3 | .order => 4

/-- Section 7.3. -/
def MediaCmd.code : MediaCmd → Nat
  | .read => 1 | .write => 2 | .identify => 3 | .flush => 4

/-- Section 7.1. -/
def EndCode.code : EndCode → Nat
  | .none => 0 | .badCommand => 1 | .badCount => 2 | .outOfRange => 3 | .noMedia => 4 | .changed => 5
  | .writeProtected => 6 | .timeout => 7 | .imageError => 8 | .reset => 9

def AttachState.code : AttachState → Nat
  | .none => 0 | .attached => 1 | .detaching => 2

def DetachKind.code : DetachKind → Nat
  | .plain => 1 | .force => 2

def TransferKind.code : TransferKind → Nat
  | .fetch => 1 | .flush => 2

def FrameState.code : FrameState → Nat
  | .free => 0 | .filling => 1 | .clean => 2 | .dirty => 3 | .flushing => 4 | .assembling => 5

def EntryState.code : EntryState → Nat
  | .free => 0 | .fetchPosted => 1 | .flushPosted => 2

def ShedKind.code : ShedKind → Nat
  | .powerOff => 1 | .forceOff => 2

def ArmMode.code : ArmMode → Nat
  | .once => 1 | .every => 2 | .perBoot => 3

def WatchAction.code : WatchAction → Nat
  | .note => 1 | .inject _ => 2 | .power _ _ => 3 | .capture _ => 3 | .bootDone => 4 | .freezeTail => 5 | .mark => 6

/-- The result detail bits of a power order (slot offset 0x10). -/
def detailGateExpired : Word := 0x01
def detailBootUnconfirmed : Word := 0x02
def detailNodeOff : Word := 0x04
def detailRemoved : Word := 0x08
def detailNoPgood : Word := 0x10
def detailPgoodLost : Word := 0x20
def detailNotHung : Word := 0x40

/-- The order flags (slot offset 0x06). -/
def flagPrefetch : Byte := 0x01
def flagEscalate : Byte := 0x02
def flagForce : Byte := 0x04

/-- The node event flags of section 10.3. -/
inductive NodeEvent where
  | watchFired | hung | recoveryExhausted | fault | tailFrozen | lateFill | bootDone | bootUnconfirmed
  | presenceChanged | shed | lostBytes | markerLost | autoOrder
deriving DecidableEq, Repr

def NodeEvent.bit : NodeEvent → Nat
  | .watchFired => 0 | .hung => 1 | .recoveryExhausted => 2 | .fault => 3 | .tailFrozen => 4 | .lateFill => 5
  | .bootDone => 6 | .bootUnconfirmed => 7 | .presenceChanged => 8 | .shed => 9 | .lostBytes => 10 | .markerLost => 11
  | .autoOrder => 12

/-- The shelf event flags of section 10.3. -/
inductive ShelfEvent where
  | overEntered | overLeft | supplyChanged | shedIssued
deriving DecidableEq, Repr

def ShelfEvent.bit : ShelfEvent → Nat
  | .overEntered => 0 | .overLeft => 1 | .supplyChanged => 2 | .shedIssued => 3

/-- The attention bits of section 10.4. -/
inductive AttnBit where
  | orderDone | transferPosted | node (n : NodeId) | shelf | refused
deriving DecidableEq, Repr

def AttnBit.bit : AttnBit → Nat
  | .orderDone => 0 | .transferPosted => 1 | .node n => 2 + n.val | .shelf => 6 | .refused => 7

/-- The marker kinds of R92 and the line record's layout. -/
inductive MarkerKind where
  | powerOn | boot | off | fault | hung | reset | nmi | watch | attach | detach | tailFrozen | shed
deriving DecidableEq, Repr

def MarkerKind.code : MarkerKind → Nat
  | .powerOn => 1 | .boot => 2 | .off => 3 | .fault => 4 | .hung => 5 | .reset => 6 | .nmi => 7 | .watch => 8
  | .attach => 9 | .detach => 10 | .tailFrozen => 11 | .shed => 12

end Sys2Proof.Machine
end

