-- ==== Sys2Proof/Machine/Ram.lean ====
section
/-! DEFINITION. The exchange RAM: reading a byte, writing a run of bytes, clearing a range (R170, R176). -/

namespace Sys2Proof.Machine

/-- What an address that the RAM does not list reads as: 0. The slots and the journal hold 0 after initialization (R168,
R104); for the rest the manual gives no power-up contents (R176). DESIGN CHOICE, unsafe: assumption 5. -/
def Memory.unlisted : Byte := 0

/-- The byte at an address. -/
def Memory.read : Memory → Nat → Byte
  | [], _ => Memory.unlisted
  | (b, x) :: m, a => if b = a then x else Memory.read m a

/-- The cells of a run of bytes from an address, less those that hold what an unlisted address reads as. -/
def Memory.cells : Nat → List Byte → Memory
  | _, [] => []
  | a, b :: bs => if b = Memory.unlisted then Memory.cells (a + 1) bs else (a, b) :: Memory.cells (a + 1) bs

/-- Write a run of bytes from an address. -/
def Memory.write (m : Memory) (a : Nat) (bs : List Byte) : Memory :=
  m.filter (fun c => c.1 < a) ++ Memory.cells a bs ++ m.filter (fun c => a + bs.length ≤ c.1)

/-- A run of `n` bytes from an address. -/
def Memory.readRun (m : Memory) (a n : Nat) : List Byte := (List.range n).map fun i => m.read (a + i)

/-- Clear the addresses from `lo` up to, and less than, `hi`. -/
def Memory.clear (m : Memory) (lo hi : Nat) : Memory := m.filter fun c => c.1 < lo || hi ≤ c.1

/-- The canonical form: addresses strictly rising, and no entry equal to what an unlisted address reads as. -/
abbrev Memory.wf (m : Memory) : Prop :=
  m.Pairwise (fun c d => c.1 < d.1) ∧ ∀ c ∈ m, c.2 ≠ Memory.unlisted

end Sys2Proof.Machine
end

