-- ==== Sys2Proof/Machine/Ops.lean ====
section
/-! DEFINITION. The shared operations on State: reading and changing one part of it, timers, attention bits and event flags,
refused writes, and the completion of an order slot. -/

namespace Sys2Proof.Machine

/-! ### Parts of the state -/

def vset {α : Type} {n : Nat} (v : Vector α n) (i : Fin n) (x : α) : Vector α n := v.set i.val x i.isLt

def vmod {α : Type} {n : Nat} (v : Vector α n) (i : Fin n) (f : α → α) : Vector α n := vset v i (f (v.get i))

def allNodes : List NodeId := [0, 1, 2, 3]

def allIndexes : List (Fin 32) := List.finRange 32

def allFrames : List FrameId := List.finRange 96

def State.node (s : State) (n : NodeId) : Node := s.nodes.get n

def State.modNode (s : State) (n : NodeId) (f : Node → Node) : State := { s with nodes := vmod s.nodes n f }

def State.modSq (s : State) (n : NodeId) (f : Sequencer → Sequencer) : State :=
  s.modNode n fun d => { d with sq := f d.sq }

def State.modLv (s : State) (n : NodeId) (f : Liveness → Liveness) : State :=
  s.modNode n fun d => { d with lv := f d.lv }

def State.modCh (s : State) (n : NodeId) (f : Channel → Channel) : State :=
  s.modNode n fun d => { d with ch := f d.ch }

def State.modJr (s : State) (n : NodeId) (f : Journal → Journal) : State :=
  s.modNode n fun d => { d with jr := f d.jr }

def State.modPort (s : State) (n : NodeId) (f : Port → Port) : State :=
  s.modNode n fun d => { d with port := f d.port }

def State.modAtt (s : State) (n : NodeId) (f : Attachment → Attachment) : State :=
  s.modNode n fun d => { d with att := f d.att }

def State.modPins (s : State) (n : NodeId) (f : Pins → Pins) : State :=
  s.modNode n fun d => { d with pins := f d.pins }

def State.modShelf (s : State) (f : Shelf → Shelf) : State := { s with shelf := f s.shelf }

def State.slot (s : State) (k : SlotId) : SlotCopy := s.slots.get k

def State.modSlot (s : State) (k : SlotId) (f : SlotCopy → SlotCopy) : State := { s with slots := vmod s.slots k f }

def State.frame (s : State) (f : FrameId) : Frame := s.frames.get f

def State.modFrame (s : State) (f : FrameId) (g : Frame → Frame) : State := { s with frames := vmod s.frames f g }

def State.entry (s : State) (e : EntryId) : Entry := s.entries.get e

def State.modEntry (s : State) (e : EntryId) (g : Entry → Entry) : State := { s with entries := vmod s.entries e g }

def State.watchEntry (s : State) (i : WatchId) : WatchEntry := s.watch.get i

def State.modWatch (s : State) (i : WatchId) (g : WatchEntry → WatchEntry) : State :=
  { s with watch := vmod s.watch i g }

def State.pair (s : State) (i : WatchId) (n : NodeId) : Pair := (s.watchEntry i).pairs.get n

def State.modPair (s : State) (i : WatchId) (n : NodeId) (g : Pair → Pair) : State :=
  s.modWatch i fun e => { e with pairs := vmod e.pairs n g }

/-- Write a run of bytes into the exchange RAM. -/
def State.store (s : State) (a : Nat) (bs : List Byte) : State := { s with mem := s.mem.write a bs }

/-! ### Timers and counts -/

/-- A timer started now (R5). -/
def Timer.start (duration : Nat) : Timer := { duration := duration, elapsed := 0 }

/-- A timer whose duration of 0 means that it does not run: it is off (section 1.2, R38, R41, R77), or it expires in the
event that starts it (R15, R112). -/
def startUnlessZero (duration : Nat) : Option Timer := if duration = 0 then none else some (Timer.start duration)

/-- A saturating count, one higher (section 0.7). -/
def bump (top n : Nat) : Nat := if n < top then n + 1 else n

/-! ### Attention and event flags -/

def bitByte (i : Nat) : Byte := (1 : Byte) <<< i

def bitWord (i : Nat) : Word := (1 : Word) <<< i

/-- R174, R175: set a bit of ATTN. In pulse mode with IEN 1, an enabled bit that goes from 0 to 1 gives a pulse, merged
into one being driven. -/
def setAttn (s : State) (b : AttnBit) : State :=
  let bit := bitByte b.bit
  let rises := s.attn &&& bit = 0 ∧ s.attnEn &&& bit ≠ 0 ∧ s.ien = true ∧ s.imode = true
  { s with attn := s.attn ||| bit, pulse := s.pulse || decide rises }

/-- R173: a block sets a node event flag; the EMC sets ATTN.NODEn at every setting. -/
def nodeEvent (s : State) (n : NodeId) (e : NodeEvent) : State :=
  setAttn (s.modNode n fun d => { d with events := d.events ||| bitWord e.bit }) (.node n)

/-- R173: a shelf event flag, and ATTN.SHELF. -/
def shelfEvent (s : State) (e : ShelfEvent) : State :=
  setAttn (s.modShelf fun h => { h with events := h.events ||| bitWord e.bit }) .shelf

/-- R170: a refused write changes nothing but the count, which saturates at 65535, and ATTN.REFUSED. -/
def refuseWrite (s : State) : State :=
  setAttn { s with refused := bump 65535 s.refused } .refused

/-! ### Order slots -/

def slotAddr (k : SlotId) : Nat := Config.slotBase + k.val * 0x100

/-- R164: write result, detail and done_time into the slot, then DONE; ATTN.ORDER_DONE; the binding is cleared (R166). -/
def slotDone (s : State) (k : SlotId) (r : Result) (detail : Word) : State :=
  let s := s.store (slotAddr k + 0x0C) (le32 r.code ++ leWord detail)
  let s := s.store (slotAddr k + 0x18) (leWord s.msclk)
  let s := s.modSlot k fun c => { c with st := .done, binding := none }
  setAttn s .orderDone

/-- R118: a watch-issued order's final result is written while last_result shows ACCEPTED. -/
def watchOrderResult (s : State) (i : WatchId) (n : NodeId) (r : Result) : State :=
  s.modPair i n fun p => if p.result = .accepted then { p with result := .ended r } else p

/-- R57: the final result of a hang action replaces the ACCEPTED of the last hang action (assumption 21). -/
def hangResult (s : State) (n : NodeId) (r : Result) : State :=
  s.modLv n fun l =>
    match l.lastHang with
    | some h => if h.result = .accepted then { l with lastHang := some { h with result := .ended r } } else l
    | none => l

/-- R45: a shed ends when its order completes: last shed recorded, the shed in progress cleared. -/
def shedEnd (s : State) (n : NodeId) (r : Result) : State :=
  s.modShelf fun h => { h with lastShed := some (n, r), shed := none }

/-- R8, R167: a power order's result goes to its source; a part-originated one sets AUTO_ORDER. -/
def deliver (s : State) (n : NodeId) (src : OrderSrc) (r : Result) (detail : Word) : State :=
  match src with
  | .slot k => slotDone s k r detail
  | .watch i => nodeEvent (watchOrderResult s i n r) n .autoOrder
  | .hang => nodeEvent (hangResult s n r) n .autoOrder
  | .shed => nodeEvent (shedEnd s n r) n .autoOrder

end Sys2Proof.Machine
end

