-- ==== Sys2Proof/Machine/Flags.lean ====
section
/-! DEFINITION. The outputs and flags that follow other state: node outputs, RTS, TXD, ATTN_INT, the effective budget, the
reservations and the order of attention bits. -/

namespace Sys2Proof.Machine

/-! ### Node outputs (R1, R2) -/

/-- PWR_EN is asserted exactly in these states (R1). -/
def PState.powered : PState → Bool
  | .inrush | .gated | .booting | .running | .stopping => true
  | .absent | .off | .queued | .dwell | .fault => false

/-- RST is released exactly in these states (R1). -/
def PState.released : PState → Bool
  | .booting | .running | .stopping => true
  | .absent | .off | .queued | .inrush | .gated | .dwell | .fault => false

def Sequencer.pwrEn (q : Sequencer) : Bool := q.pst.powered

/-- The level of RST as an assertion. -/
def Sequencer.rst (q : Sequencer) : Bool := !q.pst.released

/-- BTN is asserted exactly while the button pulse runs (R2). -/
def Sequencer.btn (q : Sequencer) : Bool := q.buttonT.isSome

/-- NMI is asserted exactly while the NMI pulse runs (R2). -/
def Sequencer.nmi (q : Sequencer) : Bool := q.nmiT.isSome

/-! ### Console outputs (R81, R83) -/

/-- The journal is stalled while a pending line waits (R96). -/
def Journal.stalled (j : Journal) : Bool := j.pendingLine.isSome

/-- R83. -/
def Node.rts (d : Node) : Bool := !(d.ch.settings.flowHold && d.jr.stalled)

/-- The parity bit of the data bits (R72, R81). -/
def parityBit (p : Parity) (bits : List Bool) : List Bool :=
  let odd := bits.foldl xor false
  match p with
  | .none => []
  | .even => [odd]
  | .odd => [!odd]

/-- The data bits of a byte, least significant first; with 7 data bits the high bit is not sent (R81). -/
def dataBitsOf (n : Nat) (b : Byte) : List Bool := (List.range n).map fun i => b.getLsbD i

/-- One character frame on TXD, in bit times, true for high (R81). -/
def charFrame (u : UartSettings) (b : Byte) : List Bool :=
  let bits := dataBitsOf u.dataBits b
  [false] ++ bits ++ parityBit u.parity bits ++ List.replicate u.stopBits true

/-- What the transmitter drives: its idle level, a break, or the frames of the string at the head (R81). -/
inductive TxdLine where
  | high
  | low
  | frames (bits : List Bool)
deriving DecidableEq, Repr

def Channel.txd (c : Channel) : TxdLine :=
  match c.tx, c.txq with
  | .string, { payload := .string text, src := _ } :: _ => .frames (text.flatMap (charFrame c.settings))
  | .brk _, _ => .low
  | _, _ => .high

/-! ### ATTN_INT (R175) -/

/-- The level of ATTN_INT: in level mode it follows IEN and the enabled bits; in pulse mode it is the pulse being driven. That a
write of CTRL does not cut a pulse short, with IEN written 0 in pulse mode or IMODE written 0 and 1 again, is the model's choice
(assumption 23). -/
def State.attnInt (s : State) : Bool :=
  if s.imode then s.pulse else s.ien && s.attn &&& s.attnEn != 0

/-! ### Budget figures (R33, R34) -/

/-- The supply factor in force. -/
def BudgetCfg.factor (c : BudgetCfg) : Nat → Nat
  | 0 => c.f0
  | 1 => c.f1
  | _ => c.f2

/-- R33: the effective budget. -/
def Shelf.effective (h : Shelf) : Nat := h.cfg.bcfg * h.cfg.factor h.supplies / 100

/-- R33: the admission limit, 0 when the headroom exceeds the effective budget. -/
def Shelf.limit (h : Shelf) : Nat := h.effective - h.cfg.headroom

/-- The figure that the state table of section 1.1 names for a node state (R34). -/
def Profile.figure (p : Profile) : PState → Nat
  | .absent => 0
  | .off | .queued | .dwell | .fault => p.standbyW
  | .inrush => p.inrushW
  | .gated | .booting => p.bootW
  | .running | .stopping => p.steadyW

def Sequencer.reservation (q : Sequencer) : Nat := q.profile.figure q.pst

/-- R(n). -/
def State.reservation (s : State) (n : NodeId) : Nat := (s.node n).sq.reservation

/-- T (R34). -/
def State.total (s : State) : Nat := (allNodes.map s.reservation).sum

/-- A node's place in the admission queue: 0 for none, 1 for the head (R66). -/
def queuePlace (queue : List NodeId) (n : NodeId) : Nat := if n ∈ queue then queue.idxOf n + 1 else 0

end Sys2Proof.Machine
end

