-- ==== Sys2Proof/Machine/Channel.lean ====
section
/-! DEFINITION. The Console Channel (chapter 4): the divisor, the classification of a frame, the transmit queue. -/

namespace Sys2Proof.Machine

/-! ### The divisor (R69) -/

def baudDivisor (baud : Nat) : Nat := (Config.refclk + 8 * baud) / (16 * baud)

/-- The distance of two numbers. -/
def absDiff (a b : Nat) : Nat := (a - b) + (b - a)

def baudError (baud : Nat) : Nat :=
  absDiff Config.refclk (16 * baudDivisor baud * baud) * 1000000 / (16 * baudDivisor baud * baud)

/-! ### Reception (R71, R72) -/

def UartSettings.format (u : UartSettings) : FrameFormat :=
  { dataBits := u.dataBits, parity := u.parity, stopBits := u.stopBits }

/-- The format of the frame being sampled: taken at its start bit (R71), or the settings in force (assumption 10). -/
def Channel.sampling (c : Channel) : FrameFormat :=
  match c.framer with
  | .frame fmt => fmt
  | _ => c.settings.format

/-- The samples of one frame, as many as its format has (R72). -/
structure Samples where
  byte : Byte
  parityOk : Bool
  parityHigh : Bool
  stops : List Bool
deriving DecidableEq, Repr

/-- The samples a command carries, cut to the format: a 7-bit byte is zero-extended; with no parity there is no parity bit. -/
def sampleFrame (f : FrameFormat) (data : Byte) (parity stop1 stop2 : Bool) : Samples :=
  let byte := if f.dataBits = 7 then data &&& 0x7F else data
  let bit := parityBit f.parity (dataBitsOf f.dataBits byte)
  { byte := byte, parityOk := f.parity = .none || bit = [parity], parityHigh := f.parity != .none && parity,
    stops := if f.stopBits = 2 then [stop1, stop2] else [stop1] }

/-- Every sample was low, which makes the frame a break (R72). -/
def Samples.isBreak (m : Samples) : Bool := m.byte = 0 && !m.parityHigh && m.stops.all (! ·)

/-- The byte carries an error (R72). -/
def Samples.error (m : Samples) : Bool := m.stops.any (! ·) || !m.parityOk

/-- The last stop bit was sampled high. -/
def Samples.endsHigh (m : Samples) : Bool := m.stops.getLastD false

/-- The framer after a frame whose last stop bit had the given level. RXD then stands at that level. -/
def Channel.frameEnd (c : Channel) (high : Bool) : Channel :=
  { c with framer := if high then .idle else .markWait, rxd := high }

/-- In MARK_WAIT with RXD high the framer passes to IDLE in the same event (R72). -/
def Channel.enterMarkWait (c : Channel) : Channel := { c with framer := if c.rxd then .idle else .markWait }

/-! ### The transmit queue (R78 to R82) -/

/-- The head item begins, when the transmitter is idle (R81). -/
def Channel.beginHead (c : Channel) : Channel :=
  match c.tx, c.txq with
  | .idle, { payload := .string _, src := _ } :: _ => { c with tx := .string }
  | .idle, { payload := .brk ms, src := _ } :: _ => { c with tx := .brk (Timer.start ms) }
  | _, _ => c

/-- An item joins at the tail (R78). -/
def Channel.append (c : Channel) (i : TxItem) : Channel := { c with txq := c.txq ++ [i] }.beginHead

/-- COMPLETE or ABORTED for an item sourced from a slot; an item from a watch entry gives no result (R80 to R82). -/
def itemResult (s : State) (i : TxItem) (r : Result) : State :=
  match i.src with
  | .slot k => slotDone s k r 0
  | _ => s

/-- The head item has been sent whole: it leaves the queue and its order completes (R81). `after` is what the transmitter
does next. -/
def headSent (s : State) (n : NodeId) (after : TxPhase) : State :=
  match (s.node n).ch.txq with
  | [] => s
  | i :: rest => itemResult (s.modCh n fun c => { c with txq := rest, tx := after }.beginHead) i .complete

/-- The transmitter ends the item being sent; a guard runs on (R81, R82). That no guard follows a BREAK so cut short is the model's
choice (assumption 17). -/
def TxPhase.cut : TxPhase → TxPhase
  | .guard => .guard
  | .idle | .string | .brk _ => .idle

/-- R82: the item being sent is cut short, the queue is emptied head first, and slot orders complete ABORTED. -/
def discardTx (s : State) (n : NodeId) : State :=
  let items := (s.node n).ch.txq
  let s := s.modCh n fun c => { c with txq := [], tx := c.tx.cut }
  items.foldl (fun s i => itemResult s i .aborted) s

/-- The checks of an INJECT watch action, in order (R80). -/
def injectCheck (d : Node) : Result :=
  if d.sq.pst = .absent then .nodeAbsent
  else if d.ch.txq.length ≥ 4 then .busy
  else if !d.sq.pwrEn then .incorrectState
  else .complete

/-- R80: an INJECT watch action at its node. -/
def injectAction (s : State) (n : NodeId) (i : WatchId) (p : TxPayload) : State :=
  if injectCheck (s.node n) = .complete then s.modCh n (·.append { payload := p, src := .watch i }) else s

/-! ### Settings and the hold (R71, R84) -/

/-- R71, steps 2 and 3: the settings, the divisor and the error are replaced, and the idle flush timer stops. -/
def Channel.setup (c : Channel) (u : UartSettings) : Channel :=
  { c with settings := u, divisor := baudDivisor u.baud, errorPpm := baudError u.baud, idleT := none }

/-- R84: at the start of a hold the framer and the idle timer stop and the queue is emptied without results. -/
def Channel.holdStart (c : Channel) : Channel :=
  { c with framer := .markWait, idleT := none, txq := [], tx := .idle }

end Sys2Proof.Machine
end

