-- ==== Sys2Proof/Machine/Journal.lean ====
section
/-! DEFINITION. The Journal Writer (chapter 5): line records, line assembly, placement, markers, the consumed fence and the
tail. -/

namespace Sys2Proof.Machine

/-! ### Line records (R86, section 10.6) -/

/-- A line slot's address (section 5.1). -/
def lineAddr (k : Nat) : Nat := Config.journalBase + k * 128

/-- The next sequence number, wrapping from 2^32 − 1 to 1 (R86). -/
def nextSeq (last : Word) : Word := if last = 0xFFFFFFFF then 1 else last + 1

def LineFlags.code (f : LineFlags) : Nat :=
  f.cont.toNat + 2 * f.partialEnd.toNat + 4 * f.brk.toNat + 8 * f.framing.toNat

/-- The 128 bytes of a line's record. -/
def lineRecord (seq : Word) (l : Line) : List Byte :=
  leWord seq ++ le16 l.boot.toNat ++ [byteOf l.text.length, byteOf l.flags.code] ++ leWord l.time ++ le16 l.lost
    ++ [0, 0] ++ padTo 112 l.text

/-- The 128 bytes of a marker's record: flag MARKER (bit 4), length 0, lost 0. -/
def markerRecord (seq : Word) (boot : Half) (time : Word) (kind : MarkerKind) (arg : Nat) : List Byte :=
  leWord seq ++ le16 boot.toNat ++ [0, 0x10] ++ leWord time ++ [0, 0, byteOf kind.code, 0] ++ padTo 112 (le32 arg)

/-! ### Placement (R90, R96) -/

/-- The free room of a body (R95). -/
def Journal.free (j : Journal) (l : Layout) : Nat := l.body - (j.bodyCount - j.fence)

/-- In lossless mode a body record needs room (R96, R98). -/
def Journal.room (j : Journal) (l : Layout) : Bool := !l.lossless || j.free l != 0

/-- The slot of the body record with an index counted from 0 since the layout (R90). -/
def Layout.bodySlot (l : Layout) (index : Nat) : Nat := l.base + l.pinned + index % l.body

/-- Write a body record and count it (R90). -/
def writeBody (s : State) (n : NodeId) (l : Layout) (record : Word → List Byte) : State :=
  let j := (s.node n).jr
  let seq := nextSeq j.lastSeq
  (s.store (lineAddr (l.bodySlot j.bodyCount)) (record seq)).modJr n fun j =>
    { j with lastSeq := seq, bodyCount := j.bodyCount + 1 }

/-- Write a pinned record and count it (R90). -/
def writePinned (s : State) (n : NodeId) (l : Layout) (record : Word → List Byte) : State :=
  let j := (s.node n).jr
  let seq := nextSeq j.lastSeq
  (s.store (lineAddr (l.base + j.pinnedCount)) (record seq)).modJr n fun j =>
    { j with lastSeq := seq, pinnedCount := j.pinnedCount + 1 }

/-- R90: place a line. `none` when it needs room in the body and there is none (R96). -/
def placeLine (s : State) (n : NodeId) (line : Line) : Option State :=
  let j := (s.node n).jr
  match j.layout with
  | none => some s
  | some l =>
    if j.pinnedCount < l.pinned then some (writePinned s n l (lineRecord · line))
    else if j.room l then some (writeBody s n l (lineRecord · line))
    else none

/-! ### Line assembly (R87 to R89, R97) -/

/-- The assembler after its line has left it. The next line takes the drop count as its lost figure (R97); CONT is due when
the line was split at 112 bytes (R88). -/
def Journal.lineGone (j : Journal) (split : Bool) : Journal :=
  { j with asm := { Assembler.empty with contDue := split, lost := j.drop }, drop := 0 }

/-- A line ended now (R86). -/
def endedLine (s : State) (n : NodeId) (partialEnd brk : Bool) : Line :=
  let d := s.node n
  { boot := d.sq.boot, time := s.msclk,
    flags := { cont := d.jr.asm.contDue, partialEnd := partialEnd, brk := brk, framing := d.jr.asm.framing },
    lost := d.jr.asm.lost, text := d.jr.asm.text }

/-- An ended line leaves the assembler: placed, made the pending line (R96), or kept in the assembler, blocked (R97). -/
def handOver (s : State) (n : NodeId) (line : Line) (split : Bool) : State :=
  match placeLine s n line with
  | some t => t.modJr n (·.lineGone split)
  | none =>
    if (s.node n).jr.stalled then
      s.modJr n fun j => { j with asm := { j.asm with blocked := if split then .full else .ended line } }
    else s.modJr n fun j => { j.lineGone split with pendingLine := some line }

/-- Store one byte of text; a line that reaches 112 bytes ends at once (R88). -/
def storeByte (s : State) (n : NodeId) (b : Byte) : State :=
  let s := s.modJr n fun j => { j with asm := { j.asm with text := j.asm.text ++ [b] } }
  if (s.node n).jr.asm.text.length < 112 then s else handOver s n (endedLine s n false false) true

/-- Store a held CR as text, if one is held (R87, R89). -/
def releaseCr (s : State) (n : NodeId) : State :=
  if (s.node n).jr.asm.cr then storeByte (s.modJr n fun j => { j with asm := { j.asm with cr := false } }) n 0x0D
  else s

/-- A byte that reaches a blocked assembler is dropped and counted (R97). -/
def dropByte (s : State) (n : NodeId) : State :=
  nodeEvent (s.modJr n fun j => { j with drop := bump 65535 j.drop }) n .lostBytes

/-- A byte's error marks the assembling line (R87). -/
def markFraming (s : State) (n : NodeId) (error : Bool) : State :=
  s.modJr n fun j => { j with asm := { j.asm with framing := j.asm.framing || error } }

/-- LF at an assembler that is not blocked (R87). -/
def takeLf (s : State) (n : NodeId) (error : Bool) : State :=
  let s := markFraming (s.modJr n fun j => { j with asm := { j.asm with cr := false } }) n error
  let a := (s.node n).jr.asm
  if a.text.isEmpty && a.contDue then s.modJr n fun j => { j with asm := { j.asm with contDue := false } }
  else handOver s n (endedLine s n false false) false

/-- A byte other than LF at an assembler that is not blocked: a held CR is stored first. If that blocks the assembler, the
byte itself is dropped (R87, R97; assumption 20). An error of the 112th byte marks the record that the byte completes (R74; assumption
38). -/
def takeOther (s : State) (n : NodeId) (b : Byte) (error : Bool) : State :=
  let s := releaseCr s n
  if (s.node n).jr.asm.blocked != .taking then dropByte s n
  else
    let s := markFraming s n error
    if b = 0x0D then s.modJr n fun j => { j with asm := { j.asm with cr := true } } else storeByte s n b

/-- A data byte reaches the line assembler (R87, R97). -/
def assembleByte (s : State) (n : NodeId) (b : Byte) (error : Bool) : State :=
  if (s.node n).jr.asm.blocked != .taking then dropByte s n
  else if b = 0x0A then takeLf s n error
  else takeOther s n b error

/-- The flag a request sets on the line it ends (R89). -/
inductive EndRequest where
  | partialEnd
  | brk
deriving DecidableEq, Repr

def requestedLine (s : State) (n : NodeId) (r : EndRequest) : Line :=
  match r with
  | .partialEnd => endedLine s n true false
  | .brk => endedLine s n false true

/-- R89: an idle flush, a break or a UART_SET ends the assembling line. At a blocked assembler it ends a full line not yet
ended, and changes nothing otherwise. A held CR is stored first; where it is the 112th byte it ends the line, without the request's
flag, and the request meets what then stands there (assumption 20). -/
def endRequest (s : State) (n : NodeId) (r : EndRequest) : State :=
  let s := if (s.node n).jr.asm.blocked = .taking then releaseCr s n else s
  match (s.node n).jr.asm.blocked with
  | .ended _ => s
  | .full => s.modJr n fun j => { j with asm := { j.asm with blocked := .ended (requestedLine s n r) } }
  | .taking =>
    if (s.node n).jr.asm.text.isEmpty && r = .partialEnd then s else handOver s n (requestedLine s n r) false

/-! ### Markers (R92, R98) -/

/-- R92: a marker is always a body record. In lossless mode one that finds no room is dropped and counted (R98); with no
layout it is discarded. -/
def marker (s : State) (n : NodeId) (kind : MarkerKind) (arg : Nat) : State :=
  let d := s.node n
  match d.jr.layout with
  | none => s
  | some l =>
    if d.jr.room l then writeBody s n l (markerRecord · d.sq.boot s.msclk kind arg)
    else nodeEvent (s.modJr n fun j => { j with markersLost := bump 255 j.markersLost }) n .markerLost

/-- A marker whose argument is the node's boot number. -/
def bootMarker (s : State) (n : NodeId) (kind : MarkerKind) : State := marker s n kind (s.node n).sq.boot.toNat

/-- R91: a new boot. -/
def newBoot (s : State) (n : NodeId) : State := bootMarker (s.modJr n fun j => { j with pinnedCount := 0 }) n .boot

/-! ### The fence (R95, R99) -/

/-- R95: the effective fence, clamped and held. -/
def Journal.takeFence (j : Journal) (w : Nat) : Journal :=
  { j with fence := if w > j.bodyCount then j.bodyCount else if w < j.fence then j.fence else w }

/-- R99, step 2: the blocked line is placed as the journal now stands, or becomes the new pending line. A line of 112 bytes sets
CONT-due, one that a request ended while it waited too (R97). A full line that no request ended takes the boot number and the time
of the event that hands it over (assumption 39). -/
def writeBlocked (s : State) (n : NodeId) : State :=
  match (s.node n).jr.asm.blocked with
  | .taking => s
  | .full => handOver s n (endedLine s n false false) true
  | .ended line => handOver s n line (line.text.length = 112)

/-- R99: after a fence event in lossless mode, write what the room allows. With no pending line or no room, nothing. -/
def roomWrite (s : State) (n : NodeId) : State :=
  let j := (s.node n).jr
  match j.layout, j.pendingLine with
  | some l, some line =>
    if l.lossless && j.room l then
      writeBlocked ((writeBody s n l (lineRecord · line)).modJr n fun j => { j with pendingLine := none }) n
    else s
  | _, _ => s

/-- R95: the fence event, from fence_hi just written and fence_lo last written. -/
def fenceEvent (s : State) (n : NodeId) : State :=
  let d := s.node n
  roomWrite (s.modJr n (·.takeFence (d.fenceHi.toNat * 0x100000000 + d.fenceLo.toNat))) n

/-! ### The tail (R100, R101) -/

/-- What became of a freeze request. -/
inductive FreezeOutcome where
  | frozen | missed | skipped
deriving DecidableEq, Repr

def freezeOutcome (j : Journal) : FreezeOutcome :=
  match j.layout with
  | none => .skipped
  | some l => if l.tail = 0 then .skipped else if j.tail.held then .missed else .frozen

/-- The number of newest body records that stand in the body, at most `most`. -/
def newestCount (j : Journal) (l : Layout) (most : Nat) : Nat := min most (min j.bodyCount l.body)

/-- The newest `k` body records, oldest first, 128 bytes each. -/
def newestRecords (s : State) (j : Journal) (l : Layout) (k : Nat) : List (List Byte) :=
  (List.range k).map fun i => s.mem.readRun (lineAddr (l.bodySlot (j.bodyCount - k + i))) 128

/-- The seq of the oldest of the copied records, 0 when none is copied. -/
def firstSeq (records : List (List Byte)) : Word :=
  match records with
  | [] => 0
  | r :: _ => wordAt r 0

/-- R100: the freeze that copies. -/
def freezeCopy (s : State) (n : NodeId) (l : Layout) (reason : TailReason) : State :=
  let j := (s.node n).jr
  let k := newestCount j l l.tail
  let records := newestRecords s j l k
  let s := s.store (lineAddr (l.base + l.pinned + l.body)) records.flatten
  let s := s.modJr n fun j =>
    { j with tail := { held := true, count := k, reason := reason, time := s.msclk, firstSeq := firstSeq records },
             tailMissed := 0 }
  nodeEvent (marker s n .tailFrozen k) n .tailFrozen

/-- A freeze request (R100, R101). -/
def freezeTail (s : State) (n : NodeId) (reason : TailReason) : State :=
  let j := (s.node n).jr
  match freezeOutcome j, j.layout with
  | .frozen, some l => freezeCopy s n l reason
  | .missed, _ => s.modJr n fun j => { j with tailMissed := bump 255 j.tailMissed }
  | _, _ => s

/-- R103: clear tail_held; everything else is kept. -/
def releaseTail (s : State) (n : NodeId) : State :=
  s.modJr n fun j => { j with tail := { j.tail with held := false } }

/-! ### Layout and reset (R94, R105) -/

/-- R94: install a layout or none; the receive history is cleared with it. -/
def installLayout (s : State) (n : NodeId) (l : Option Layout) : State :=
  s.modNode n fun d => { d with jr := { Journal.full with layout := l }, hist := [] }

/-- R105: at the start of a hold the assembling line, the drop count and the pending line go. -/
def dropLines (s : State) (n : NodeId) : State :=
  s.modJr n fun j => { j with asm := .empty, drop := 0, pendingLine := none }

end Sys2Proof.Machine
end

