-- ==== Sys2Proof/Machine/Frames.lean ====
section
/-! DEFINITION. The Frame Controller (chapter 8): the frame table, the lists, allocation, transfer requests, write-back, the
end of a command, the data flag and the prefetch. -/

namespace Sys2Proof.Machine

/-! ### Windows and tags (R130, R146) -/

def frameAddr (f : FrameId) : Nat := Config.frameBase + f.val * 4096

def PortCmd.start (c : PortCmd) : Nat :=
  match c.kind with
  | .read | .write => c.first * 512
  | .identify | .flush => 0

/-- The end of the window (R130); a FLUSH has none. -/
def PortCmd.stop (c : PortCmd) : Nat :=
  match c.kind with
  | .read | .write => (c.first + c.count) * 512
  | .identify => 512
  | .flush => 0

/-- READ and WRITE use frames. -/
def PortCmd.usesFrames (c : PortCmd) : Bool := c.kind = .read || c.kind = .write

/-- The tag of the frame that holds the counter. -/
def PortCmd.tag (c : PortCmd) : Nat := c.counter / 4096

/-- The tags of the window's frames, ascending. -/
def PortCmd.tags (c : PortCmd) : List Nat :=
  (List.range ((c.stop + 4095) / 4096 - c.start / 4096)).map (c.start / 4096 + ·)

/-- The blocks of the image that the frame with a tag holds (R146). -/
def AttachFigures.blocksOf (g : AttachFigures) (t : Nat) : Nat := min 8 (g.capacity - t * 8)

/-- The window covers the frame wholly: all 8 blocks, or every block up to the capacity (R151). -/
def PortCmd.coversWholly (c : PortCmd) (g : AttachFigures) (t : Nat) : Bool :=
  c.start ≤ t * 4096 && (t * 8 + g.blocksOf t) * 512 ≤ c.stop

/-! ### The frame table and the lists (R146 to R148) -/

def State.owned (s : State) (n : NodeId) (t : Nat) : Option FrameId :=
  allFrames.find? fun f => (s.frame f).own = some (n, t)

def Frame.ownedBy (f : Frame) (n : NodeId) : Bool :=
  match f.own with
  | some (m, _) => m = n
  | none => false

def State.ownedCount (s : State) (n : NodeId) : Nat := s.frames.toList.countP fun f => f.ownedBy n

/-- The number of frames a node owns in a state. -/
def State.ownedIn (s : State) (n : NodeId) (st : FrameState) : Nat :=
  s.frames.toList.countP fun f => f.ownedBy n && f.st = st

/-- R148: a frame is held while it lies in the window of a command in progress at its node's port, at or after the frame
that holds the counter. The start of a soft reset hold ends the command with no word to the Frame Controller (R140, R152); that its
frames are not held from then on is DEDUCED from R148 (assumption 51). -/
def State.held (s : State) (f : FrameId) : Bool :=
  match (s.frame f).own with
  | none => false
  | some (n, t) =>
    match (s.node n).port.cmd with
    | some c => c.usesFrames && c.tag ≤ t && t * 4096 < c.stop
    | none => false

def dropClean (s : State) (f : FrameId) : State := { s with clean := s.clean.filter (· ≠ f) }

def joinClean (s : State) (f : FrameId) : State := { s with clean := s.clean.filter (· ≠ f) ++ [f] }

def dropDirty (s : State) (n : NodeId) (f : FrameId) : State :=
  s.modAtt n fun a => { a with dirty := a.dirty.filter (· ≠ f) }

/-- R146: a frame becomes FREE: it leaves its list, and a request of it that waits is removed (R144). Its bytes are left. -/
def freeFrame (s : State) (f : FrameId) : State :=
  let s := match (s.frame f).own with
    | some (n, _) => dropDirty s n f
    | none => s
  let s := { dropClean s f with waitList := s.waitList.filter fun r => r.frame ≠ f }
  s.modFrame f fun x => { x with st := .free, own := none, expired := false, ageT := none }

/-- R147: a frame becomes CLEAN. -/
def makeClean (s : State) (f : FrameId) : State :=
  joinClean (s.modFrame f fun x => { x with st := .clean, ageT := none }) f

/-! ### Transfer requests (R155) -/

def State.freeEntry (s : State) : Option EntryId := allIndexes.find? fun e => (s.entry e).st = .free

/-- R155: a request takes an entry and is posted. The result word keeps its value. A posted flush turns its frame FLUSHING
and takes it off the dirty list. -/
def postEntry (s : State) (e : EntryId) (r : Request) : State :=
  let (n, t) := (s.frame r.frame).own.getD (0, 0)
  let fig := (s.node n).att.fig
  let s := s.modEntry e fun x =>
    { x with st := if r.kind = .fetch then .fetchPosted else .flushPosted, kind := some r.kind, node := n.val,
             first := t * 8, count := fig.blocksOf t, offset := frameAddr r.frame, time := s.msclk, frame := r.frame }
  let s := match r.kind with
    | .fetch => s
    | .flush => (dropDirty s n r.frame).modFrame r.frame fun x => { x with st := .flushing, ageT := none }
  setAttn s .transferPosted

/-- R155: a request takes the lowest-numbered FREE entry, or joins the tail of the wait list. -/
def requestTransfer (s : State) (k : TransferKind) (f : FrameId) : State :=
  let r : Request := { kind := k, frame := f }
  match s.freeEntry with
  | some e => postEntry s e r
  | none => { s with waitList := s.waitList ++ [r] }

/-- R155: the request at the head of the wait list takes an entry that has become FREE. -/
def serveWaitList (s : State) : State :=
  match s.waitList, s.freeEntry with
  | r :: rest, some e => postEntry { s with waitList := rest } e r
  | _, _ => s

/-- The entry becomes FREE, only its state word changing, and the wait list is served (R155). -/
def freeEntryServe (s : State) (e : EntryId) : State :=
  serveWaitList (s.modEntry e fun x => { x with st := .free })

/-- A flush of the frame waits in the wait list. A posted flush has turned its frame FLUSHING. -/
def State.flushWaits (s : State) (f : FrameId) : Bool := s.waitList.any fun r => r.frame = f && r.kind = .flush

/-- R158: a flush is requested only for a DIRTY frame that has none. -/
def requestFlush (s : State) (f : FrameId) : State :=
  if (s.frame f).st = .dirty && !s.flushWaits f then requestTransfer s .flush f else s

/-- A flush of the node's oldest DIRTY frame that has none (R149, R158). -/
def flushOldest (s : State) (n : NodeId) : State :=
  match (s.node n).att.dirty.find? fun f => !s.flushWaits f with
  | some f => requestFlush s f
  | none => s

/-- Flushes of every DIRTY frame of the node that has none, oldest first (R155). -/
def flushAll (s : State) (n : NodeId) : State := (s.node n).att.dirty.foldl requestFlush s

/-- R147, R158: a frame becomes DIRTY, joins the tail of its node's dirty list, and the dirty_limit test follows. -/
def joinDirty (s : State) (n : NodeId) (f : FrameId) : State :=
  let fig := (s.node n).att.fig
  let s := (dropClean s f).modFrame f fun x =>
    { x with st := .dirty, dirtySince := s.msclk, ageT := some (Timer.start fig.flushAgeMs) }
  let s := s.modAtt n fun a => { a with dirty := a.dirty.filter (· ≠ f) ++ [f] }
  if (s.node n).att.dirty.length ≥ fig.dirtyLimit then flushOldest s n else s

/-! ### Allocation (R148 to R150) -/

/-- R148, steps 2 and 3. -/
def State.findFrame (s : State) (n : NodeId) : Option FrameId :=
  let a := (s.node n).att
  if s.ownedCount n < a.fig.quota then
    match allFrames.find? fun f => (s.frame f).st = .free with
    | some f => some f
    | none => s.clean.find? fun f => !s.held f
  else s.clean.find? fun f => (s.frame f).ownedBy n && !s.held f

/-- A frame taken in step 2 or 3: evicted if it was CLEAN, and given to the node with the tag. -/
def takeFrame (s : State) (f : FrameId) (n : NodeId) (t : Nat) (st : FrameState) : State :=
  (dropClean s f).modFrame f fun x => { x with st := st, own := some (n, t), expired := false, ageT := none }

/-- R148: a frame for a node and tag; newly allocated it becomes FILLING, with a fetch requested, or ASSEMBLING. `none`: the
allocation reached step 4. -/
def allocate (s : State) (n : NodeId) (t : Nat) (assemble : Bool) : Option State :=
  match s.owned n t with
  | some _ => some s
  | none =>
    match s.findFrame n with
    | none => none
    | some f =>
      if assemble then some (takeFrame s f n t .assembling)
      else some (requestTransfer (takeFrame s f n t .filling) .fetch f)

/-- R150, R151: the allocation of one frame of a command's window. -/
def allocateFor (s : State) (n : NodeId) (c : PortCmd) (t : Nat) : Option State :=
  allocate s n t (c.kind = .write && c.coversWholly (s.node n).att.fig t)

/-- R150: the window's frames in ascending tag order; step 4 stops the pass. That a frame ahead of the counter which so stops the pass
requests no flush is the model's choice (R149, R158; assumption 48). -/
def windowPass (s : State) (n : NodeId) (c : PortCmd) : List Nat → State
  | [] => s
  | t :: ts =>
    match allocateFor s n c t with
    | some s => windowPass s n c ts
    | none => s

/-- The tag a waiting allocation waits for, and whether the frame is to be ASSEMBLING. -/
def waiterAllocate (s : State) (w : Waiter) : Option State :=
  match w with
  | .command n =>
    match (s.node n).port.cmd with
    | some c => allocateFor s n c c.tag
    | none => some s
  | .prefetch n => allocate s n 0 false

def Waiter.node : Waiter → NodeId
  | .command n | .prefetch n => n

def dropWaiter (s : State) (w : Waiter) : State := { s with waits := s.waits.filter (· ≠ w) }

/-- One try of a waiting allocation: it leaves the order with its frame, or a flush is requested (R149). -/
def tryWaiter (s : State) (w : Waiter) : State :=
  match waiterAllocate s w with
  | some t => dropWaiter t w
  | none => flushOldest s w.node

/-- R149: the waiting allocations are tried again, in the order in which they began to wait (assumption 18). -/
def retryWaits (s : State) : State := s.waits.foldl tryWaiter s

/-- R149: an allocation, which waits when it reaches step 4. -/
def allocateOrWait (s : State) (w : Waiter) : State :=
  match waiterAllocate s w with
  | some t => t
  | none => flushOldest { s with waits := s.waits.filter (· ≠ w) ++ [w] } w.node

/-! ### The counter's frame (R131, R151) -/

def State.counterFrame (s : State) (n : NodeId) (c : PortCmd) : Option FrameId := s.owned n c.tag

/-- The states of the counter's frame in which a command may access it (R131). -/
def MediaCmd.admits : MediaCmd → FrameState → Bool
  | .read, .clean | .read, .dirty | .read, .flushing => true
  | .write, .clean | .write, .dirty | .write, .assembling => true
  | _, _ => false

/-- DATA (R131). -/
def State.data (s : State) (n : NodeId) : Bool :=
  let p := (s.node n).port
  match p.cmd with
  | none => false
  | some c =>
    match c.kind with
    | .flush => false
    | .identify => !p.rst && c.counter < c.stop
    | .read | .write =>
      match s.counterFrame n c with
      | some f => !p.rst && c.kind.admits (s.frame f).st && c.counter < c.stop
      | none => false

/-- R151: the Frame Controller is told of a word stored at the counter. -/
def wordStored (s : State) (n : NodeId) (c : PortCmd) (f : FrameId) : State :=
  match (s.frame f).st with
  | .clean => joinDirty s n f
  | .assembling => if c.counter + 4 = min c.stop ((c.tag + 1) * 4096) then joinDirty s n f else s
  | _ => s

/-! ### The end of a command (R134, R152) -/

/-- R152, step 2: every ASSEMBLING frame of the node is freed. -/
def freeAssembling (s : State) (n : NodeId) : State :=
  allFrames.foldl (fun s f => if (s.frame f).ownedBy n && (s.frame f).st = .assembling then freeFrame s f else s) s

/-- R134, step 3: the ended command recorded, the command in progress cleared. -/
def Port.ended (p : Port) (code : Byte) (e : EndCode) (now : Word) : Port :=
  { p with cmd := none, lastCode := code, lastEnd := e, lastTime := now, waitT := none }

/-- R134, R152: a command in progress ends with DONE, and with ERROR unless its end code is NONE. -/
def endCommand (s : State) (n : NodeId) (e : EndCode) : State :=
  match (s.node n).port.cmd with
  | none => s
  | some c =>
    let s := s.modPort n fun p =>
      { p.ended (byteOf c.kind.code) e s.msclk with done := true, error := e ≠ .none, err := e }
    retryWaits (dropWaiter (freeAssembling s n) (.command n))

/-- The end of a command with RESET: DONE and ERROR are not set (R137, R138). -/
def resetCommand (s : State) (n : NodeId) : State :=
  match (s.node n).port.cmd with
  | none => s
  | some c =>
    let s := s.modPort n fun p => { p.ended (byteOf c.kind.code) .reset s.msclk with err := .reset }
    retryWaits (dropWaiter (freeAssembling s n) (.command n))

/-- R139: a FLUSH ends with NONE once the node owns no frame in DIRTY, ASSEMBLING or FLUSHING. -/
def flushCheck (s : State) (n : NodeId) : State :=
  match (s.node n).port.cmd with
  | some { kind := .flush, .. } =>
    if s.ownedIn n .dirty = 0 && s.ownedIn n .assembling = 0 && s.ownedIn n .flushing = 0 then endCommand s n .none
    else s
  | _ => s

/-- R153: a command's wait timer runs while DATA is clear for the frame at its counter, and stops when DATA is set or the
command ends. -/
def settleWait (s : State) (n : NodeId) : State :=
  let p := (s.node n).port
  let waiting := match p.cmd with
    | some c => c.usesFrames && !s.data n
    | none => false
  if !waiting then (if p.waitT.isSome then s.modPort n fun p => { p with waitT := none } else s)
  else if p.waitT.isSome then s
  else s.modPort n fun p => { p with waitT := some (Timer.start (s.node n).att.fig.fetchTimeoutMs) }

def settleWaits (s : State) : State := allNodes.foldl settleWait s

/-! ### The prefetch (R16, R154) -/

/-- R154: the sequencer asks for tag 0, and takes the answer. That a node which owns tag 0 in ASSEMBLING gets the answer waiting, with
no fetch and no waiting allocation, is the model's choice (assumption 50). -/
def beginPrefetch (s : State) (n : NodeId) : State :=
  let answer (s : State) (p : Prefetch) : State := s.modSq n fun q => { q with prefetch := p }
  if (s.node n).att.st ≠ .attached then s
  else
    match s.owned n 0 with
    | some f =>
      match (s.frame f).st with
      | .clean | .dirty | .flushing => answer s .resident
      | _ => answer s .waiting
    | none => allocateOrWait (answer s .waiting) (.prefetch n)

/-- The prefetch state returns to NONE and its waiting allocation is dropped (R16, R154). -/
def dropPrefetch (s : State) (n : NodeId) : State :=
  dropWaiter (s.modSq n fun q => { q with prefetch := .none }) (.prefetch n)

end Sys2Proof.Machine
end

