-- ==== Sys2Proof/Machine/Port.lean ====
section
/-! DEFINITION. The Media Port (chapter 7): its flags, the checks of a command, the data port, the node-side reset. -/

namespace Sys2Proof.Machine

/-! ### What the port shows (R127, R128) -/

/-- BUSY: a command in progress, RST, or a soft reset hold (R130, R137, R140). -/
def State.busy (s : State) (n : NodeId) : Bool :=
  let p := (s.node n).port
  p.cmd.isSome || p.rst || s.hold

/-- R128. -/
def State.ready (s : State) (n : NodeId) : Bool :=
  let d := s.node n
  d.att.st = .attached && !d.port.rst && !s.hold

def Attachment.wrprot (a : Attachment) : Bool := a.st ≠ .none && a.fig.readOnly

/-- MP_CAP (R128). -/
def Attachment.cap (a : Attachment) : Nat := if a.st = .none then 0 else a.fig.capacity

/-- MP_STAT (section 10.6). -/
def State.mpStat (s : State) (n : NodeId) : Nat :=
  let d := s.node n
  (s.ready n).toNat + 2 * (s.busy n).toNat + 4 * (s.data n).toNat + 8 * d.port.done.toNat + 16 * d.port.error.toNat
    + 32 * d.port.changed.toNat + 64 * d.att.wrprot.toNat

/-- MP_CTL. -/
def Port.ctl (p : Port) : Nat := p.ie.toNat + 2 * p.rst.toNat

/-- The node interrupt (R135). -/
def Port.interrupt (p : Port) : Bool := p.done && p.ie

/-- The word a read of the port register at an offset returns, MP_DATA apart (R126, section 10.6). That an offset at which the port has
no register returns 0 is the model's choice (assumption 27). -/
def State.portRegister (s : State) (n : NodeId) (offset : Nat) : Word :=
  let d := s.node n
  match offset with
  | 0x00 => d.port.cmdWord
  | 0x04 => BitVec.ofNat 32 (s.mpStat n)
  | 0x08 => d.port.block
  | 0x0C => d.port.count
  | 0x14 => BitVec.ofNat 32 d.port.err.code
  | 0x18 => BitVec.ofNat 32 d.port.ctl
  | 0x1C => BitVec.ofNat 32 d.att.cap
  | _ => 0

/-! ### Commands (R129, R130) -/

/-- The command a word of MP_CMD names (section 7.3). -/
def mediaCmdOf (w : Word) : Option MediaCmd :=
  if w = 1 then some .read else if w = 2 then some .write else if w = 3 then some .identify
  else if w = 4 then some .flush else none

/-- R129: the first check that fails. -/
def commandCheck (d : Node) (w : Word) : Except EndCode MediaCmd :=
  match mediaCmdOf w with
  | none => .error .badCommand
  | some k =>
    if d.att.st ≠ .attached then .error .noMedia
    else if d.port.changed then .error .changed
    else if k = .identify ∨ k = .flush then .ok k
    else if d.port.count.toNat = 0 ∨ d.port.count.toNat > 64 then .error .badCount
    else if d.port.block.toNat + d.port.count.toNat > d.att.fig.capacity then .error .outOfRange
    else if k = .write ∧ d.att.fig.readOnly = true then .error .writeProtected
    else .ok k

/-- What the port does first with every command it takes (R129). -/
def Port.take (p : Port) (w : Word) : Port := { p with cmdWord := w, done := false, error := false, err := .none }

/-- A refused command: DONE, ERROR and the end code; recorded as the last ended command (R129). That its 8-bit code is the low 8 bits
of the word, as for the last command code taken, is the model's choice (assumption 40). -/
def Port.refuse (p : Port) (w : Word) (e : EndCode) (now : Word) : Port :=
  { p.ended (w.truncate 8) e now with
    done := true, error := true, err := e, changed := p.changed && e ≠ .changed }

/-- R130: an accepted command is in progress; what follows is the Frame Controller's. That the counter of a FLUSH, which has no
window, is 0 is the model's choice (assumption 41). -/
def acceptCommand (s : State) (n : NodeId) (k : MediaCmd) : State :=
  let p := (s.node n).port
  let first := p.block.toNat
  let c : PortCmd :=
    { kind := k, first := first, count := p.count.toNat,
      counter := if k = .read ∨ k = .write then first * 512 else 0, moved := false }
  let s := s.modPort n fun p => { p with cmd := some c }
  match k with
  | .identify => s
  | .flush => flushCheck (flushAll s n) n
  | .read | .write => allocateOrWait (windowPass s n c c.tags) (.command n)

/-- R126, R129: the node writes MP_CMD. -/
def takeCommand (s : State) (n : NodeId) (w : Word) : State :=
  if s.busy n then s
  else
    let s := s.modPort n (·.take w)
    match commandCheck (s.node n) w with
    | .error e => s.modPort n (·.refuse w e s.msclk)
    | .ok k => acceptCommand s n k

/-! ### The identity block (R136) -/

def Attachment.identity (a : Attachment) : List Byte :=
  padTo 512 (le32 a.fig.capacity ++ le32 512 ++ le32 a.fig.readOnly.toNat ++ le16 a.attachNumber.toNat ++ [0, 0]
    ++ padTo 24 a.fig.model ++ padTo 16 a.fig.serial)

/-! ### The data port (R132, R133) -/

/-- The word at the counter (R132). -/
def State.counterWord (s : State) (n : NodeId) (c : PortCmd) : Word :=
  match c.kind with
  | .identify => wordAt (s.node n).att.identity c.counter
  | _ =>
    match s.counterFrame n c with
    | some f => wordAt (s.mem.readRun (frameAddr f + c.counter % 4096) 4) 0
    | none => 0xFFFFFFFF

/-- R147, R150: the first data-port read that a READ makes from a CLEAN frame moves it to the tail of the clean list. -/
def touchFrame (s : State) (n : NodeId) (c : PortCmd) : State :=
  match c.kind, s.counterFrame n c with
  | .read, some f =>
    if (s.frame f).st = .clean && !c.moved then
      (joinClean s f).modPort n fun p => { p with cmd := p.cmd.map fun c => { c with moved := true } }
    else s
  | _, _ => s

/-- R132: the counter advances by 4. At the window's end the command ends. In a new frame the frame is asked for (R150), and the
allocations that wait already are tried again, because a frame left its hold (R149); that they are tried before the command's own
allocation is the model's choice (assumption 52). -/
def advance (s : State) (n : NodeId) : State :=
  match (s.node n).port.cmd with
  | none => s
  | some c =>
    let next := c.counter + 4
    let s := s.modPort n fun p => { p with cmd := some { c with counter := next } }
    if next = c.stop then endCommand s n .none
    else if c.usesFrames && next % 4096 = 0 then
      let s := s.modPort n fun p => { p with cmd := some { c with counter := next, moved := false } }
      allocateOrWait (retryWaits s) (.command n)
    else s

/-- R132, R133: a read of MP_DATA; `busData` is the word returned. -/
def readData (s : State) (n : NodeId) : State :=
  let refused := s.modPort n fun p => { p with busData := 0xFFFFFFFF }
  match (s.node n).port.cmd with
  | some c =>
    if (c.kind = .read ∨ c.kind = .identify) ∧ s.data n then
      advance ((touchFrame s n c).modPort n fun p => { p with busData := s.counterWord n c }) n
    else refused
  | none => refused

/-- R132, R133: a write of MP_DATA. -/
def writeData (s : State) (n : NodeId) (w : Word) : State :=
  match (s.node n).port.cmd with
  | some c =>
    match s.counterFrame n c with
    | some f =>
      if c.kind = .write ∧ s.data n then
        advance (wordStored (s.store (frameAddr f + c.counter % 4096) (leWord w)) n c f) n
      else s
    | none => s
  | none => s

/-! ### Status, control and resets (R135, R137, R138) -/

/-- R135: a read of MP_STAT returns the flags and clears DONE. -/
def readStat (s : State) (n : NodeId) : State :=
  let w := BitVec.ofNat 32 (s.mpStat n)
  s.modPort n fun p => { p with busData := w, done := false }

/-- The reset values of section 7.1; the record of the last ended command and the bus word are kept. -/
def Port.resetValues (p : Port) : Port :=
  { p with cmdWord := 0, block := 0, count := 0, err := .none, done := false, error := false, changed := false,
           ie := false, rst := false }

/-- R137: MP_CTL written with RST 1. -/
def portResetOn (s : State) (n : NodeId) (ie : Bool) : State :=
  if (s.node n).port.rst then s.modPort n fun p => { p with ie := ie }
  else (resetCommand s n).modPort n fun p => { p with rst := true, done := false, error := false, ie := ie }

/-- R137: MP_CTL written with RST 0. The IE in the word that releases RST is not taken. -/
def portResetOff (s : State) (n : NodeId) (ie : Bool) : State :=
  if (s.node n).port.rst then s.modPort n (·.resetValues) else s.modPort n fun p => { p with ie := ie }

/-- R138: a power event of the node. -/
def portPowerReset (s : State) (n : NodeId) : State := (resetCommand s n).modPort n (·.resetValues)

/-- R140: at the start of a hold a command in progress ends with RESET; the Frame Controller is not told. -/
def Port.holdStart (p : Port) (now : Word) : Port :=
  let q := match p.cmd with
    | some c => { p.ended (byteOf c.kind.code) .reset now with err := .reset }
    | none => p
  { q with done := false, error := false, waitT := none }

end Sys2Proof.Machine
end

