-- ==== Sys2Proof/Machine/Power.lean ====
section
/-! DEFINITION. The Power Sequencer (chapter 1): state changes, the power order in progress, the power orders and their
checks, the node's power events. -/

namespace Sys2Proof.Machine

/-! ### State changes (R1, R2, R5, R38, R39, R54) -/

/-- A timer is kept in the states named for it and stopped otherwise (R5). -/
def keepTimer (keep : Bool) (t : Option Timer) : Option Timer := if keep then t else none

/-- R1, R2, R5, R16: the sequencer in its new state. Timers and pulses that do not belong to the state end; the prefetch
state survives only in INRUSH and GATED; the fault reason only in FAULT. -/
def Sequencer.enter (q : Sequencer) (st : PState) (now : Word) : Sequencer :=
  { q with
    pst := st, since := now,
    faultReason := if st = .fault then q.faultReason else .none,
    prefetch := if st = .inrush ∨ st = .gated then q.prefetch else .none,
    inrushT := keepTimer (st = .inrush) q.inrushT, pgT := keepTimer (st = .inrush) q.pgT,
    resetT := keepTimer (st = .gated) q.resetT, gateT := keepTimer (st = .gated) q.gateT,
    bootT := keepTimer (st = .booting) q.bootT,
    buttonT := keepTimer (st = .stopping) q.buttonT, stopT := keepTimer (st = .stopping) q.stopT,
    nmiT := keepTimer (st = .booting || st = .running) q.nmiT,
    dwellT := keepTimer (st = .dwell) q.dwellT, admT := keepTimer (st = .queued) q.admT }

/-- R54: entry to RUNNING sets both origins and restarts both window timers. -/
def Liveness.enterRunning (l : Liveness) (now : Word) : Liveness :=
  { l with hbOrigin := now, silOrigin := now, hbAge := 0, silAge := 0, hbReached := false, silReached := false }

/-- R54, R58: on leaving RUNNING the timers stop and the reached and hung flags clear; hung_since is kept. -/
def Liveness.leaveRunning (l : Liveness) : Liveness :=
  { l with hbReached := false, silReached := false, hung := false }

def Liveness.change (l : Liveness) (old new : PState) (now : Word) : Liveness :=
  if new = .running then l.enterRunning now else if old = .running then l.leaveRunning else l

/-- R38, R39: the admission queue holds exactly the nodes in QUEUED. -/
def queueChange (queue : List NodeId) (n : NodeId) (new : PState) : List NodeId :=
  if new = .queued then queue.filter (· ≠ n) ++ [n] else queue.filter (· ≠ n)

/-- A change of node state, by whatever rule makes it (R1). The same state is no change. The outputs follow. -/
def changeState (s : State) (n : NodeId) (st : PState) : State :=
  let old := (s.node n).sq.pst
  if old = st then s
  else
    let s := s.modNode n fun d => { d with sq := d.sq.enter st s.msclk, lv := d.lv.change old st s.msclk }
    let s := s.modShelf fun h => { h with queue := queueChange h.queue n st }
    let s := if st = .queued then
        s.modSq n fun q => { q with admT := startUnlessZero (q.profile.admissionTimeoutS * 1000) }
      else s
    if st = .inrush ∨ st = .gated then s else dropWaiter s (.prefetch n)

/-- R3: what follows when PWR_EN drops: the Media Port, the Console Channel, and the OFF marker on entry to OFF or DWELL. -/
def dropPower (s : State) (n : NodeId) : State :=
  let s := discardTx (portPowerReset s n) n
  match (s.node n).sq.pst with
  | .off | .dwell => bootMarker s n .off
  | _ => s

/-- A change to a state in which PWR_EN is deasserted, with R3 if it was asserted. -/
def leavePower (s : State) (n : NodeId) (st : PState) : State :=
  let powered := (s.node n).sq.pwrEn
  let s := changeState s n st
  if powered then dropPower s n else s

/-! ### The power order in progress (R6, R8, R9) -/

/-- R6. -/
def setOrder (s : State) (n : NodeId) (code : PowerCode) (src : OrderSrc) (flags : Byte) : State :=
  s.modSq n fun q =>
    { q with order := some { code := code, src := src, flags := flags, since := s.msclk, detail := 0 } }

/-- R8: record a completed power order and hand its result to its source. -/
def recordCompletion (s : State) (n : NodeId) (code : PowerCode) (src : OrderSrc) (r : Result) (detail : Word) : State :=
  let s := s.modSq n fun q =>
    { q with last := { code := byteOf code.code, result := byteOf r.code, detail := detail, time := s.msclk } }
  deliver s n src r detail

/-- R8: the power order in progress, if any, completes with a result; `detail` joins the detail gathered so far. -/
def completeOrder (s : State) (n : NodeId) (r : Result) (detail : Word) : State :=
  match (s.node n).sq.order with
  | none => s
  | some o =>
    recordCompletion (s.modSq n fun q => { q with order := none }) n o.code o.src r (o.detail ||| detail)

/-- The order in progress has one of these codes. -/
def orderIs (s : State) (n : NodeId) (codes : List PowerCode) : Bool :=
  match (s.node n).sq.order with
  | some o => codes.contains o.code
  | none => false

/-- A power-up order completes COMPLETE on entry to RUNNING (R17, R18). -/
def completePowerUp (s : State) (n : NodeId) (detail : Word) : State :=
  if orderIs s n [.powerOn, .cycle] then completeOrder s n .complete detail else s

/-- Add a bit to the detail of the order in progress (R15). -/
def addDetail (s : State) (n : NodeId) (detail : Word) : State :=
  s.modSq n fun q => { q with order := q.order.map fun o => { o with detail := o.detail ||| detail } }

/-! ### Powering on (R13 to R18) -/

/-- R114: at a node's BOOTING entry its pair of every valid PER_BOOT entry that watches it is armed. -/
def rearmEntry (n : NodeId) (e : WatchEntry) : WatchEntry :=
  match e.fields with
  | some f =>
    if e.valid && f.arm = .perBoot && f.nodeSet.getLsbD n.val then
      { e with pairs := vmod e.pairs n fun p => { p with armed := true } }
    else e
  | none => e

def rearmBoot (s : State) (n : NodeId) : State := { s with watch := vmap s.watch (rearmEntry n) }

/-- R17: entry to BOOTING, and to RUNNING in the same event if boot_timeout_s is 0. -/
def enterBooting (s : State) (n : NodeId) : State :=
  let s := changeState s n .booting
  let s := s.modSq n fun q => { q with boot := q.boot + 1 }
  let s := rearmBoot (newBoot s n) n
  let s := s.modLv n fun l => { l with edges := 0 }
  let s := s.modSq n fun q => { q with bootT := startUnlessZero (q.profile.bootTimeoutS * 1000) }
  let s := if orderIs s n [.reset, .resetIfHung] then completeOrder s n .complete 0 else s
  if (s.node n).sq.profile.bootTimeoutS = 0 then completePowerUp (changeState s n .running) n 0 else s

/-- R15: the node leaves GATED once the reset timer has expired and no prefetch waits or the gate timer has expired. -/
def gateCheck (s : State) (n : NodeId) : State :=
  let q := (s.node n).sq
  let waiting : Bool := q.prefetch = .waiting
  if q.pst = .gated ∧ q.resetT = none ∧ (waiting = false ∨ q.gateT = none) then
    enterBooting (if waiting then addDetail s n detailGateExpired else s) n
  else s

/-- R15: entry to GATED. A gate timeout of 0 expires in the event that starts it. -/
def enterGated (s : State) (n : NodeId) : State :=
  (changeState s n .gated).modSq n fun q =>
    { q with resetT := some (Timer.start q.profile.resetMs),
             gateT := if q.prefetch = .waiting then startUnlessZero q.profile.gateTimeoutMs else none }

/-- R13: an admitted node enters INRUSH. -/
def enterInrush (s : State) (n : NodeId) : State :=
  let s := changeState s n .inrush
  let pg := (s.node n).pins.pgood
  let s := s.modSq n fun q =>
    { q with inrushT := some (Timer.start q.profile.inrushMs),
             pgT := if pg then none else some (Timer.start q.profile.pgTimeoutMs), pgSeen := pg }
  let s := bootMarker s n .powerOn
  match (s.node n).sq.order with
  | some { code := .powerOn, flags := flags, .. } => if flags &&& flagPrefetch ≠ 0 then beginPrefetch s n else s
  | _ => s

/-- R18: a BOOT_DONE watch action at a BOOTING node. -/
def bootDone (s : State) (n : NodeId) : State :=
  completePowerUp (nodeEvent (changeState s n .running) n .bootDone) n 0

/-! ### FAULT, SLP_OFF, removal (R10, R19, R20) -/

def faultDetail : FaultReason → Word
  | .none => 0
  | .noPgood => detailNoPgood
  | .pgoodLost => detailPgoodLost

/-- R19: entry to FAULT. -/
def enterFault (s : State) (n : NodeId) (r : FaultReason) : State :=
  let s := leavePower s n .fault
  let s := s.modSq n fun q => { q with faultReason := r }
  let s := freezeTail (marker s n .fault r.code) n .fault
  nodeEvent (completeOrder s n .faulted (faultDetail r)) n .fault

/-- R20: the node's own shutdown. -/
def nodeOff (s : State) (n : NodeId) : State :=
  let s := leavePower s n .off
  if orderIs s n [.powerOff] then completeOrder s n .complete 0 else completeOrder s n .aborted detailNodeOff

/-- R10: PRES falls. -/
def removeNode (s : State) (n : NodeId) : State :=
  if (s.node n).sq.pst = .absent then s
  else
    let s := portPowerReset (leavePower s n .absent) n
    nodeEvent (completeOrder s n .aborted detailRemoved) n .presenceChanged

/-- R11: PRES rises. -/
def insertNode (s : State) (n : NodeId) : State :=
  if (s.node n).sq.pst = .absent then nodeEvent (changeState s n .off) n .presenceChanged else s

/-! ### The checks of a power order (R7, R37, R60, R162) -/

/-- The flags that are an order's own. -/
def PowerCode.ownFlags : PowerCode → Byte
  | .powerOn => flagPrefetch
  | .powerOff => flagEscalate
  | .forceOff | .reset | .resetIfHung | .cycle | .nmi => 0

/-- R7: the busy check applies to these. -/
def PowerCode.checksBusy : PowerCode → Bool
  | .powerOn | .powerOff | .nmi => true
  | .forceOff | .reset | .resetIfHung | .cycle => false

/-- R7, R60: the states that accept an order. -/
def PowerCode.acceptedIn : PowerCode → PState → Bool
  | .powerOn, .off | .powerOn, .fault => true
  | .powerOff, .booting | .powerOff, .running => true
  | .forceOff, .queued | .forceOff, .inrush | .forceOff, .gated | .forceOff, .booting | .forceOff, .running
  | .forceOff, .stopping | .forceOff, .dwell | .forceOff, .fault => true
  | .reset, .booting | .reset, .running => true
  | .resetIfHung, .running => true
  | .cycle, .inrush | .cycle, .gated | .cycle, .booting | .cycle, .running | .cycle, .stopping | .cycle, .fault => true
  | .nmi, .booting | .nmi, .running => true
  | _, _ => false

/-- A refusal: its code and its detail (R163). -/
structure Refused where
  result : Result
  detail : Word
deriving DecidableEq, Repr

def refusal (r : Result) : Option Refused := some { result := r, detail := 0 }

/-- R162, step 7: the upfront budget check (R37) and the hung determination (R60). -/
def finalCheck (s : State) (n : NodeId) (code : PowerCode) : Option Refused :=
  let d := s.node n
  match code with
  | .powerOn | .cycle => if d.sq.profile.inrushW > s.shelf.limit then refusal .noBudget else none
  | .resetIfHung =>
    if d.lv.hbWindow = 0 ∧ d.lv.silWindow = 0 then refusal .undetermined
    else if d.lv.hung then none
    else some { result := .incorrectState, detail := detailNotHung }
  | .powerOff | .forceOff | .reset | .nmi => none

/-- R162, steps 3 to 7, for a power order: `none` when every check passes. -/
def powerCheck (s : State) (n : NodeId) (code : PowerCode) (flags : Byte) : Option Refused :=
  let q := (s.node n).sq
  if q.pst = .absent then refusal .nodeAbsent
  else if code.checksBusy && q.order.isSome then refusal .busy
  else if flags &&& ~~~code.ownFlags ≠ 0 then refusal .invalidParameter
  else if !code.acceptedIn q.pst then refusal .incorrectState
  else finalCheck s n code

/-! ### The power orders (R9, R12, R21, R23 to R25, R27) -/

/-- R9: a reset-class order supersedes the order in progress. Its timers, its pulse and its place in the queue end with the
change of state that follows. -/
def supersede (s : State) (n : NodeId) : State := completeOrder s n .superseded 0

/-- R24: RESET, and RESET_IF_HUNG once accepted (R61). -/
def actReset (s : State) (n : NodeId) (code : PowerCode) (src : OrderSrc) : State :=
  let s := setOrder (supersede s n) n code src 0
  bootMarker (portPowerReset (enterGated s n) n) n .reset

/-- R25. -/
def actCycle (s : State) (n : NodeId) (src : OrderSrc) : State :=
  let s := setOrder (supersede s n) n .cycle src 0
  let s := portPowerReset (leavePower s n .dwell) n
  s.modSq n fun q => { q with dwellT := some (Timer.start q.profile.offDwellMs) }

/-- R23: a FORCE_OFF is never in progress. -/
def actForceOff (s : State) (n : NodeId) (src : OrderSrc) : State :=
  recordCompletion (leavePower (supersede s n) n .off) n .forceOff src .complete 0

/-- An accepted power order acts. -/
def actPower (s : State) (n : NodeId) (code : PowerCode) (src : OrderSrc) (flags : Byte) : State :=
  match code with
  | .powerOn => changeState (setOrder s n .powerOn src flags) n .queued
  | .powerOff =>
    (changeState (setOrder s n .powerOff src flags) n .stopping).modSq n fun q =>
      { q with buttonT := some (Timer.start q.profile.buttonMs),
               stopT := some (Timer.start (q.profile.stopTimeoutS * 1000)) }
  | .forceOff => actForceOff s n src
  | .reset => actReset s n .reset src
  | .resetIfHung => actReset s n .resetIfHung src
  | .cycle => actCycle s n src
  | .nmi =>
    bootMarker ((setOrder s n .nmi src flags).modSq n fun q =>
      { q with nmiT := some (Timer.start q.profile.nmiMs) }) n .nmi

/-! ### Pins and timers (R13 to R15, R19 to R22, R26, R27) -/

/-- R14: PGOOD rises. -/
def pgoodUp (s : State) (n : NodeId) : State :=
  let q := (s.node n).sq
  if q.pst = .inrush ∧ q.pgSeen = false then
    let s := s.modSq n fun q => { q with pgSeen := true, pgT := none }
    if q.inrushT = none then enterGated s n else s
  else s

/-- R14, R19, R20: PGOOD falls. -/
def pgoodDown (s : State) (n : NodeId) : State :=
  let d := s.node n
  match d.sq.pst with
  | .inrush => if d.sq.pgSeen then enterFault s n .pgoodLost else s
  | .gated => enterFault s n .pgoodLost
  | .booting | .running | .stopping => if d.pins.slpOff then nodeOff s n else enterFault s n .pgoodLost
  | .absent | .off | .queued | .dwell | .fault => s

/-- R20: SLP_OFF rises. -/
def slpOffUp (s : State) (n : NodeId) : State := if (s.node n).sq.pst.released then nodeOff s n else s

/-- R14: the inrush timer expires. -/
def inrushExpires (s : State) (n : NodeId) : State :=
  let s := s.modSq n fun q => { q with inrushT := none }
  if (s.node n).sq.pgSeen then enterGated s n else s

/-- R14, R19: the power-good timer expires with PGOOD not seen. -/
def powerGoodExpires (s : State) (n : NodeId) : State :=
  let s := s.modSq n fun q => { q with pgT := none }
  if (s.node n).sq.pgSeen then s else enterFault s n .noPgood

/-- R18: the boot timer expires. -/
def bootExpires (s : State) (n : NodeId) : State :=
  completePowerUp (nodeEvent (changeState s n .running) n .bootUnconfirmed) n detailBootUnconfirmed

/-- R22: the stop timer expires. -/
def stopExpires (s : State) (n : NodeId) : State :=
  match (s.node n).sq.order with
  | some o =>
    if o.flags &&& flagEscalate ≠ 0 then completeOrder (leavePower s n .off) n .escalated 0
    else completeOrder (changeState s n .running) n .timeout 0
  | none => changeState s n .running

/-- R27: the NMI timer expires. -/
def nmiExpires (s : State) (n : NodeId) : State :=
  completeOrder (s.modSq n fun q => { q with nmiT := none }) n .complete 0

/-- R13, R42: the admission timeout reaches the sequencer. -/
def admissionExpires (s : State) (n : NodeId) : State := completeOrder (changeState s n .off) n .timeout 0

end Sys2Proof.Machine
end

