-- ==== Sys2Proof/Machine/Alive.lean ====
section
/-! DEFINITION. The liveness checks (chapter 3): signs of life, the hung determination, recovery, LIVENESS_SET. -/

namespace Sys2Proof.Machine

/-- A check that is off, or reached (R55). -/
def checkMet (window : Nat) (reached : Bool) : Bool := window = 0 || reached

/-- R55: hung. -/
def hungNow (d : Node) : Bool :=
  d.sq.pst = .running && (d.lv.hbWindow != 0 || d.lv.silWindow != 0) && checkMet d.lv.hbWindow d.lv.hbReached
    && checkMet d.lv.silWindow d.lv.silReached

/-- The last hang action is recorded (R57). -/
def recordHang (s : State) (n : NodeId) (r : LastResult) : State :=
  s.modLv n fun l => { l with lastHang := some { action := l.action, time := s.msclk, result := r } }

/-- R57: the hang action, or RECOVERY_EXHAUSTED. The order is issued before its ACCEPTED is recorded, so that the SUPERSEDED of
an NMI that a hang action began goes to the last hang action as it stood (R8, R9). -/
def hangAction (s : State) (n : NodeId) : State :=
  let l := (s.node n).lv
  match l.action.order with
  | none => s
  | some code =>
    if l.recovery < l.limit then
      match powerCheck s n code 0 with
      | some r => recordHang s n (.ended r.result)
      | none => recordHang (actPower (s.modLv n fun l => { l with recovery := l.recovery + 1 }) n code .hang 0) n .accepted
    else nodeEvent s n .recoveryExhausted

/-- R56: detection. -/
def detectHang (s : State) (n : NodeId) : State :=
  let s := s.modLv n fun l => { l with hung := true, hungSince := s.msclk }
  hangAction (freezeTail (bootMarker (nodeEvent s n .hung) n .hung) n .hung) n

/-- R55, R58: re-determine the hung flag. -/
def determineHung (s : State) (n : NodeId) : State :=
  let d := s.node n
  if hungNow d = d.lv.hung then s
  else if hungNow d then detectHang s n
  else s.modLv n fun l => { l with hung := false }

/-- R52: a rising edge of HBEAT. -/
def heartbeat (s : State) (n : NodeId) : State :=
  match (s.node n).sq.pst with
  | .absent => s
  | .running =>
    determineHung (s.modLv n fun l =>
      { l with edges := bump 65535 l.edges, hbOrigin := s.msclk, hbAge := 0, hbReached := false }) n
  | _ => s.modLv n fun l => { l with edges := bump 65535 l.edges }

/-- R53: a received byte. -/
def byteSignOfLife (s : State) (n : NodeId) : State :=
  if (s.node n).sq.pst = .running then
    determineHung (s.modLv n fun l => { l with silOrigin := s.msclk, silAge := 0, silReached := false }) n
  else s

/-- The heartbeat window timer runs while RUNNING, the check is enabled and not reached (R54). -/
def hbRuns (d : Node) : Bool := d.sq.pst = .running && d.lv.hbWindow != 0 && !d.lv.hbReached

def silRuns (d : Node) : Bool := d.sq.pst = .running && d.lv.silWindow != 0 && !d.lv.silReached

/-- R54, R55: the heartbeat window timer has run out: it runs, and the age has reached the window. A heartbeat taken first has
restarted it. -/
def hbRunOut (d : Node) : Bool := hbRuns d && decide (d.lv.hbWindow ≤ d.lv.hbAge)

/-- R54, R55: the silence window timer has run out. -/
def silRunOut (d : Node) : Bool := silRuns d && decide (d.lv.silWindow ≤ d.lv.silAge)

/-- R54: the heartbeat window timer expires. -/
def hbExpires (s : State) (n : NodeId) : State := determineHung (s.modLv n fun l => { l with hbReached := true }) n

/-- R54: the silence window timer expires. -/
def silExpires (s : State) (n : NodeId) : State := determineHung (s.modLv n fun l => { l with silReached := true }) n

/-- The four settings of LIVENESS_SET (R62). -/
structure LivenessSettings where
  hbWindow : Nat
  silWindow : Nat
  action : HangAction
  limit : Nat
deriving DecidableEq, Repr

/-- R63: a reached flag under a new window, while RUNNING. -/
def retimeReached (old new age : Nat) (reached : Bool) : Bool :=
  if new = old then reached else new != 0 && decide (new ≤ age)

/-- R59, R62, R63: replace the settings. -/
def Liveness.install (l : Liveness) (running : Bool) (c : LivenessSettings) : Liveness :=
  { l with
    hbWindow := c.hbWindow, silWindow := c.silWindow, action := c.action, limit := c.limit,
    recovery := min l.recovery c.limit,
    hbReached := if running then retimeReached l.hbWindow c.hbWindow l.hbAge l.hbReached else l.hbReached,
    silReached := if running then retimeReached l.silWindow c.silWindow l.silAge l.silReached else l.silReached }

/-- R62, R63: an accepted LIVENESS_SET. -/
def installLiveness (s : State) (n : NodeId) (c : LivenessSettings) : State :=
  determineHung (s.modLv n fun l => l.install ((s.node n).sq.pst = .running) c) n

end Sys2Proof.Machine
end

