-- ==== Sys2Proof/Machine/Budget.lean ====
section
/-! DEFINITION. The Shelf Budget Unit (chapter 2): the shelf state, shedding, admission, the budget evaluation. -/

namespace Sys2Proof.Machine

/-- R35: determine the shelf state. -/
def determineShelf (s : State) : State :=
  let isOver : Bool := s.total > s.shelf.effective
  if isOver = s.shelf.isOver then s
  else if isOver then
    shelfEvent (s.modShelf fun h => { h with isOver := true, overSince := s.msclk }) .overEntered
  else shelfEvent (s.modShelf fun h => { h with isOver := false }) .overLeft

/-- R43: a node fit to be shed. -/
def shedCandidate (q : Sequencer) : Bool :=
  q.profile.shedRank != 0 &&
  match q.pst with
  | .inrush | .gated => true
  | .booting | .running => q.order.isNone
  | .absent | .off | .queued | .stopping | .dwell | .fault => false

/-- The better of two choices: the greater rank, and the lower node number among equals, which comes first. -/
def betterShed (s : State) (best : Option NodeId) (n : NodeId) : Option NodeId :=
  if shedCandidate (s.node n).sq then
    match best with
    | none => some n
    | some m => if (s.node n).sq.profile.shedRank > (s.node m).sq.profile.shedRank then some n else some m
  else best

/-- R43: the shed choice. -/
def shedChoice (s : State) : Option NodeId := allNodes.foldl (betterShed s) none

/-- R44: a BOOTING or RUNNING node is asked to shut down; one in INRUSH or GATED is forced off. -/
def shedKindOf (st : PState) : ShedKind := if st.released then .powerOff else .forceOff

/-- R44: the shed is recorded, flagged and marked, and its order issued. A candidate passes every check. -/
def issueShed (s : State) (n : NodeId) : State :=
  let q := (s.node n).sq
  let kind := shedKindOf q.pst
  let rank := q.profile.shedRank
  let s := s.modShelf fun h => { h with shed := some { node := n, rank := rank, kind := kind, since := s.msclk } }
  let s := marker (shelfEvent (nodeEvent s n .shed) .shedIssued) n .shed rank
  match kind with
  | .powerOff => actPower s n .powerOff .shed flagEscalate
  | .forceOff => actPower s n .forceOff .shed 0

/-- R40, R41: the stagger interval has passed. -/
def Shelf.staggerPassed (h : Shelf) : Bool := !h.admitted || h.staggerT.isNone

/-- R40: the head's figure in place of its standby figure fits, and the interval has passed. -/
def admissible (s : State) (n : NodeId) : Bool :=
  let q := (s.node n).sq
  s.total - q.reservation + q.profile.inrushW ≤ s.shelf.limit && s.shelf.staggerPassed

/-- R40: the head is admitted. -/
def admitHead (s : State) (n : NodeId) : State :=
  let s := s.modShelf fun h =>
    { h with queue := h.queue.filter (· ≠ n), lastAdmission := s.msclk, admitted := true,
             staggerT := startUnlessZero h.cfg.staggerMs }
  enterInrush s n

/-- One pass of the evaluation changes something: `none` when it changes nothing more (R36, steps 2 and 3). -/
def budgetPass (s : State) : Option State :=
  if s.shelf.isOver then
    if s.shelf.cfg.shedEnable && s.shelf.shed.isNone then (shedChoice s).map (issueShed s) else none
  else
    match s.shelf.queue with
    | [] => none
    | n :: _ => if admissible s n then some (admitHead s n) else none

/-- R36: passes until one changes nothing. The first argument bounds their number. -/
def budgetPasses : Nat → State → State
  | 0, s => determineShelf s
  | k + 1, s =>
    let s := determineShelf s
    match budgetPass s with
    | some t => budgetPasses k t
    | none => s

/-- R36. Each node is shed and admitted at most once in an event, so 16 passes are enough. -/
def evaluateBudget (s : State) : State := budgetPasses 16 s

/-- R1, R34: what the sequencers report to the Budget Unit: a change of state, or the completion of a power order. -/
def budgetReported (old new : State) : Bool :=
  allNodes.any fun n =>
    let p := (old.node n).sq
    let q := (new.node n).sq
    p.pst != q.pst || (p.order.isSome && p.order != q.order)

/-- R32: a change of level on a supply pin. -/
def supplyChange (s : State) : State :=
  evaluateBudget (shelfEvent (s.modShelf fun h => { h with sampleA := s.supplyA, sampleB := s.supplyB }) .supplyChanged)

/-- R41, R48: a BUDGET_SET re-times a running stagger timer from the last admission; the interval has passed if the new duration
has elapsed. -/
def retimeStagger (t : Option Timer) (ms : Nat) : Option Timer :=
  t.bind fun t => if t.elapsed ≥ ms then none else some { t with duration := ms }

/-- R48. -/
def installBudget (s : State) (c : BudgetCfg) : State :=
  evaluateBudget (s.modShelf fun h => { h with cfg := c, staggerT := retimeStagger h.staggerT c.staggerMs })

/-- R28. -/
def installProfile (s : State) (n : NodeId) (p : Profile) : State :=
  evaluateBudget (s.modSq n fun q => { q with profile := p })

/-- R41: the stagger timer expires. -/
def staggerExpires (s : State) : State := evaluateBudget (s.modShelf fun h => { h with staggerT := none })

end Sys2Proof.Machine
end

