-- ==== Sys2Proof/Machine/Media.lean ====
section
/-! DEFINITION. Attachments and transfer returns (sections 8.1, 8.5, 8.6): ATTACH, DETACH, the four returns, the wait timer
and the age trigger. -/

namespace Sys2Proof.Machine

/-! ### ATTACH (R142) -/

def installAttachment (s : State) (n : NodeId) (g : AttachFigures) : State :=
  let s := s.modAtt n fun a => { a with st := .attached, fig := g, attachNumber := a.attachNumber + 1 }
  let s := marker s n .attach (s.node n).att.attachNumber.toNat
  s.modPort n fun p => { p with changed := true }

/-! ### DETACH (R143 to R145) -/

/-- R145: the DETACH completes in the first event after which the node owns no frame. That `discarded` and the slot then keep their
values, through an ATTACH too, until the next DETACH is the model's choice (R141; assumption 31). -/
def detachCheck (s : State) (n : NodeId) : State :=
  let a := (s.node n).att
  if a.st = .detaching ∧ s.ownedCount n = 0 then
    let s := s.modAtt n fun a => { a with st := .none, detach := none }
    let s := marker s n .detach a.discarded
    slotDone s (Fin.ofNat 32 a.detachSlot) .complete (BitVec.ofNat 32 a.discarded)
  else s

/-- Free every frame of a node that satisfies a condition. -/
def freeWhere (s : State) (n : NodeId) (p : State → FrameId → Bool) : State :=
  allFrames.foldl (fun s f => if (s.frame f).ownedBy n && p s f then freeFrame s f else s) s

def isDiscarded (s : State) (f : FrameId) : Bool := (s.frame f).st = .dirty || (s.frame f).st = .assembling

def isClean (s : State) (f : FrameId) : Bool := (s.frame f).st = .clean

/-- FILLING, with its fetch request in the wait list. -/
def isUnposted (s : State) (f : FrameId) : Bool :=
  (s.frame f).st = .filling && s.waitList.any fun r => r.frame = f && r.kind = .fetch

/-- R144, step 3: a force DETACH discards DIRTY and ASSEMBLING frames, and counts them. -/
def discardFrames (s : State) (n : NodeId) : State :=
  let k := allFrames.countP fun f => (s.frame f).ownedBy n && isDiscarded s f
  (freeWhere s n isDiscarded).modAtt n fun a => { a with discarded := a.discarded + k }

/-- R144, step 2: a WAITING prefetch becomes NONE, which may release the gate (R15, R16). -/
def detachPrefetch (s : State) (n : NodeId) : State :=
  if (s.node n).sq.prefetch = .waiting then gateCheck (dropPrefetch s n) n else s

/-- R144, steps 5 and 6. -/
def freeIdleFrames (s : State) (n : NodeId) : State := freeWhere (freeWhere s n isClean) n isUnposted

/-- R144: a DETACH accepted at a node that is ATTACHED. R149 has the waiting allocations tried again; that this comes after step 7 and
before the completion is the model's choice (assumption 49). -/
def beginDetach (s : State) (n : NodeId) (slot : Nat) (k : DetachKind) : State :=
  let s := s.modAtt n fun a => { a with st := .detaching, detach := some k, detachSlot := slot, discarded := 0 }
  let s := detachPrefetch s n
  let s := if k = .force then discardFrames s n else s
  let s := endCommand (s.modPort n fun p => { p with changed := true }) n .noMedia
  let s := freeIdleFrames s n
  let s := if k = .plain then flushAll s n else s
  detachCheck (retryWaits s) n

/-- R143, R144: a force DETACH supersedes the non-force DETACH in progress. The waiting allocations are tried again after its steps
(assumption 49). -/
def forceDetach (s : State) (n : NodeId) (slot : Nat) : State :=
  let s := slotDone s (Fin.ofNat 32 (s.node n).att.detachSlot) .superseded 0
  let s := s.modAtt n fun a => { a with detach := some .force, detachSlot := slot }
  detachCheck (retryWaits (freeIdleFrames (discardFrames s n) n)) n

/-- R143, R144: an accepted DETACH. -/
def acceptDetach (s : State) (n : NodeId) (slot : Nat) (k : DetachKind) : State :=
  if (s.node n).att.st = .detaching then forceDetach s n slot else beginDetach s n slot k

/-! ### Returns (R156, R157) -/

/-- The node and tag of a frame. -/
def State.ownerOf (s : State) (f : FrameId) : NodeId × Nat := (s.frame f).own.getD (0, 0)

/-- R156: the fill of an expired frame is late. -/
def lateFill (s : State) (f : FrameId) (n : NodeId) : State :=
  if (s.frame f).expired then
    nodeEvent ((s.modFrame f fun x => { x with expired := false }).modAtt n fun a =>
      { a with lateFills := bump 65535 a.lateFills }) n .lateFill
  else s

/-- R154, R156: a prefetch that waits on tag 0 becomes RESIDENT. -/
def prefetchFilled (s : State) (n : NodeId) (t : Nat) : State :=
  if t = 0 ∧ (s.node n).sq.prefetch = .waiting then
    (dropWaiter s (.prefetch n)).modSq n fun q => { q with prefetch := .resident }
  else s

/-- R156, R157: what follows every return: the entry FREE, the wait list served, the waiting allocations tried again, and a
DETACH that now owns no frame completed. -/
def afterReturn (s : State) (e : EntryId) (n : NodeId) : State :=
  detachCheck (retryWaits (freeEntryServe s e)) n

/-- R156: FILLED. -/
def fillReturned (s : State) (e : EntryId) : State :=
  let f := (s.entry e).frame
  let (n, t) := s.ownerOf f
  let s := lateFill s f n
  let s := if (s.node n).att.st = .detaching then freeFrame s f else prefetchFilled (makeClean s f) n t
  gateCheck (afterReturn s e n) n

/-- The newest failed transfer (R141). -/
def recordFailure (s : State) (e : EntryId) (n : NodeId) (t : Nat) (k : TransferKind) : State :=
  let w := (s.entry e).result
  s.modAtt n fun a => { a with lastFailure := some { kind := k, tag := t, result := w } }

/-- R156: a fetch returned FAILED. -/
def fetchReturnedFailed (s : State) (e : EntryId) : State :=
  let f := (s.entry e).frame
  let (n, t) := s.ownerOf f
  let held := s.held f
  let s := freeFrame s f
  let s := s.modAtt n fun a => { a with fetchFailures := bump 65535 a.fetchFailures }
  let s := recordFailure s e n t .fetch
  let s := if held then endCommand s n .imageError else s
  afterReturn s e n

/-- R157: FLUSHED. -/
def flushReturned (s : State) (e : EntryId) : State :=
  let f := (s.entry e).frame
  let (n, _) := s.ownerOf f
  let s := if (s.node n).att.st = .detaching then freeFrame s f else makeClean s f
  afterReturn (flushCheck s n) e n

/-- The node's command in progress is a FLUSH. -/
def flushing (d : Node) : Bool :=
  match d.port.cmd with
  | some c => c.kind = .flush
  | none => false

/-- R153, R157: DATA is set for a command that waits on this frame, so its wait timer stops. If the frame becomes FLUSHING again in the
same event, the wait that follows has a new timer. -/
def stopWait (s : State) (n : NodeId) (f : FrameId) : State :=
  match (s.node n).port.cmd with
  | some c => if s.counterFrame n c = some f then s.modPort n fun p => { p with waitT := none } else s
  | none => s

/-- R157: a flush returned FAILED. -/
def flushReturnedFailed (s : State) (e : EntryId) : State :=
  let f := (s.entry e).frame
  let (n, t) := s.ownerOf f
  let s := s.modAtt n fun a => { a with flushFailures := bump 65535 a.flushFailures }
  let s := recordFailure s e n t .flush
  let s :=
    if (s.node n).att.detach = some .force then
      (freeFrame s f).modAtt n fun a => { a with discarded := a.discarded + 1 }
    else
      let s := joinDirty (stopWait s n f) n f
      let s := if flushing (s.node n) then endCommand s n .imageError else s
      if (s.node n).att.detach = some .plain then requestFlush s f else s
  afterReturn s e n

/-! ### Timers (R153, R158) -/

/-- R153: the wait timer expires. -/
def waitExpires (s : State) (n : NodeId) : State :=
  match (s.node n).port.cmd with
  | none => s
  | some c =>
    let s := match s.counterFrame n c with
      | some f => if (s.frame f).st = .filling then s.modFrame f fun x => { x with expired := true } else s
      | none => s
    endCommand s n .timeout

/-- R158: the age of a frame that is still DIRTY reaches flush_age_ms. -/
def ageExpires (s : State) (f : FrameId) : State := requestFlush (s.modFrame f fun x => { x with ageT := none }) f

end Sys2Proof.Machine
end

