-- ==== Sys2Proof/Machine/Operands.lean ====
section
/-! DEFINITION. What an order names: its code, its target, its flags and its parameter block (section 10.6), and the seven
checks of R162. -/

namespace Sys2Proof.Machine

/-! ### Codes and targets (section 9.2) -/

inductive OrderCode where
  | power (c : PowerCode)
  | inject | uartSet | journalLayout | tailFreeze | tailRelease | watchSet | watchClear | watchRearm | attach | detach
  | budgetSet | profileSet | livenessSet | capture
deriving DecidableEq, Repr

def orderCodeOf (b : Byte) : Option OrderCode :=
  match b.toNat with
  | 0x01 => some (.power .powerOn)
  | 0x02 => some (.power .powerOff)
  | 0x03 => some (.power .forceOff)
  | 0x04 => some (.power .reset)
  | 0x05 => some (.power .resetIfHung)
  | 0x06 => some (.power .cycle)
  | 0x07 => some (.power .nmi)
  | 0x10 => some .inject
  | 0x11 => some .uartSet
  | 0x12 => some .journalLayout
  | 0x13 => some .tailFreeze
  | 0x14 => some .tailRelease
  | 0x20 => some .watchSet
  | 0x21 => some .watchClear
  | 0x22 => some .watchRearm
  | 0x30 => some .attach
  | 0x31 => some .detach
  | 0x40 => some .budgetSet
  | 0x41 => some .profileSet
  | 0x42 => some .livenessSet
  | 0x43 => some .capture
  | _ => none

/-- A target: a node, or the shelf. -/
inductive Target where
  | node (n : NodeId)
  | shelf
deriving DecidableEq, Repr

def targetOf (b : Byte) : Option Target :=
  match b.toNat with
  | 0 => some (.node 0)
  | 1 => some (.node 1)
  | 2 => some (.node 2)
  | 3 => some (.node 3)
  | 0xFF => some .shelf
  | _ => none

/-! ### Parameter blocks (section 10.6) -/

def inRange (lo hi n : Nat) : Bool := lo ≤ n && n ≤ hi

def flagOf (n : Nat) : Option Bool := if n = 0 then some false else if n = 1 then some true else none

def parityOf (n : Nat) : Option Parity :=
  if n = 0 then some .none else if n = 1 then some .even else if n = 2 then some .odd else Option.none

/-- An item: a STRING of 1 to `most` bytes, or a BREAK of 10 to 2000 ms (R79, R106). -/
def itemOf (p : List Byte) (most : Nat) : Option TxPayload :=
  match byteAt p 0 with
  | 1 => if inRange 1 most (byteAt p 1) then some (.string (bytesAt p 4 (byteAt p 1))) else none
  | 2 => if inRange 10 2000 (halfAt p 2) then some (.brk (halfAt p 2)) else none
  | _ => none

/-- R70. -/
def uartOf (p : List Byte) : Option UartSettings := do
  let parity ← parityOf (byteAt p 5)
  let flow ← flagOf (byteAt p 7)
  let u : UartSettings :=
    { baud := longAt p 0, dataBits := byteAt p 4, parity := parity, stopBits := byteAt p 6, flowHold := flow,
      idleFlushMs := longAt p 8 }
  if inRange 300 3000000 u.baud && inRange 7 8 u.dataBits && inRange 1 2 u.stopBits
      && (u.idleFlushMs = 0 || inRange 10 10000 u.idleFlushMs) && baudError u.baud ≤ 30000 then some u
  else none

def Layout.stop (l : Layout) : Nat := l.base + l.pinned + l.body + l.tail

def Layout.disjoint (a b : Layout) : Bool := a.stop ≤ b.base || b.stop ≤ a.base

/-- R93: no slot is shared with the span of another node's layout in force. -/
def sharesNone (s : State) (n : NodeId) (l : Layout) : Bool :=
  allNodes.all fun m =>
    match (s.node m).jr.layout with
    | some k => m = n || l.disjoint k
    | none => true

/-- R93: a removal, or a valid layout. -/
def layoutOf (s : State) (n : NodeId) (p : List Byte) : Option (Option Layout) :=
  let l : Layout :=
    { base := halfAt p 0, pinned := halfAt p 2, body := halfAt p 4, tail := halfAt p 6, lossless := byteAt p 8 = 1 }
  if l.body = 0 ∧ l.pinned = 0 ∧ l.tail = 0 then some none
  else if l.base ≤ 2047 && l.pinned ≤ 64 && inRange 8 2048 l.body && l.tail ≤ 64 && byteAt p 8 ≤ 1 && l.stop ≤ 2048
      && sharesNone s n l then some (some l)
  else none

/-- R106, R121: the order of an ORDER action. -/
def watchOrderOf (p : List Byte) : Option WatchAction :=
  let flags := byteOf (byteAt p 1)
  let plain (c : PowerCode) : Option WatchAction := if flags = 0 then some (.power c 0) else none
  match byteAt p 0 with
  | 0x02 => if flags = 0 ∨ flags = flagEscalate then some (.power .powerOff flags) else none
  | 0x03 => plain .forceOff
  | 0x04 => plain .reset
  | 0x06 => plain .cycle
  | 0x07 => plain .nmi
  | 0x43 => if flags = 0 ∧ byteAt p 2 ≤ 63 then some (.capture (byteAt p 2)) else none
  | _ => none

def watchActionOf (code : Nat) (argument : List Byte) : Option WatchAction :=
  match code with
  | 1 => some .note
  | 2 => (itemOf argument 32).map .inject
  | 3 => watchOrderOf argument
  | 4 => some .bootDone
  | 5 => some .freezeTail
  | 6 => some .mark
  | _ => none

def armModeOf (n : Nat) : Option ArmMode :=
  match n with
  | 1 => some .once
  | 2 => some .every
  | 3 => some .perBoot
  | _ => none

/-- A table index. -/
def indexOf (n : Nat) : Option WatchId := if h : n < 32 then some ⟨n, h⟩ else none

/-- R121: the fields of a WATCH_SET. Pattern bytes and wild flags beyond L are not held (R106). -/
def watchFieldsOf (p : List Byte) : Option WatchFields := do
  let action ← watchActionOf (byteAt p 4) (p.drop 36)
  let arm ← armModeOf (byteAt p 5)
  let fold ← flagOf (byteAt p 3)
  let len := byteAt p 2
  if inRange 1 15 (byteAt p 1) && inRange 1 24 len && halfAt p 6 ≤ 60000 then
    some { nodeSet := BitVec.ofNat 4 (byteAt p 1),
           pattern := (List.range len).map fun i => (byteOf (byteAt p (12 + i)), (wordAt p 8).getLsbD i),
           fold := fold, action := action, arm := arm, holdoffMs := halfAt p 6 }
  else none

/-- R142. -/
def attachOf (p : List Byte) : Option AttachFigures := do
  let readOnly ← flagOf (byteAt p 4)
  let g : AttachFigures :=
    { capacity := longAt p 0, readOnly := readOnly, quota := byteAt p 5, fetchTimeoutMs := longAt p 8,
      flushAgeMs := longAt p 12, dirtyLimit := byteAt p 6, model := bytesAt p 16 24, serial := bytesAt p 40 16 }
  if 1 ≤ g.capacity && inRange 8 96 g.quota && inRange 100 120000 g.fetchTimeoutMs && inRange 100 60000 g.flushAgeMs
      && inRange 1 g.quota g.dirtyLimit && (g.model ++ g.serial).all fun b => inRange 0x20 0x7E b.toNat then some g
  else none

/-- R47. -/
def budgetOf (p : List Byte) : Option BudgetCfg := do
  let enable ← flagOf (byteAt p 7)
  let c : BudgetCfg :=
    { bcfg := halfAt p 0, headroom := halfAt p 2, f2 := byteAt p 4, f1 := byteAt p 5, f0 := byteAt p 6,
      staggerMs := longAt p 8, shedEnable := enable }
  if c.bcfg ≤ 20000 && c.headroom ≤ 20000 && c.f2 ≤ 100 && c.f1 ≤ c.f2 && c.f0 ≤ c.f1 && c.staggerMs ≤ 60000 then some c
  else none

/-- R28, section 1.9. -/
def Profile.valid (p : Profile) : Bool :=
  p.standbyW ≤ 4000 && p.inrushW ≤ 4000 && p.bootW ≤ 4000 && p.steadyW ≤ 4000 && inRange 100 10000 p.inrushMs
    && inRange p.inrushMs 30000 p.pgTimeoutMs && inRange 10 5000 p.resetMs && p.gateTimeoutMs ≤ 120000
    && p.bootTimeoutS ≤ 3600 && inRange 100 8000 p.buttonMs && inRange 1 600 p.stopTimeoutS && inRange 10 1000 p.nmiMs
    && inRange 1000 60000 p.offDwellMs && p.admissionTimeoutS ≤ 3600 && p.shedRank ≤ 4

def profileOf (b : List Byte) : Option Profile :=
  let p : Profile :=
    { standbyW := halfAt b 0, inrushW := halfAt b 2, bootW := halfAt b 4, steadyW := halfAt b 6, inrushMs := halfAt b 8,
      pgTimeoutMs := halfAt b 10, resetMs := halfAt b 12, gateTimeoutMs := longAt b 16, bootTimeoutS := halfAt b 20,
      buttonMs := halfAt b 14, stopTimeoutS := halfAt b 22, nmiMs := halfAt b 24, offDwellMs := halfAt b 26,
      admissionTimeoutS := halfAt b 28, shedRank := byteAt b 30 }
  if p.valid then some p else none

def hangActionOf (n : Nat) : Option HangAction :=
  match n with
  | 0 => some .none
  | 1 => some .nmi
  | 2 => some .reset
  | 3 => some .cycle
  | _ => Option.none

/-- R62. -/
def livenessOf (p : List Byte) : Option LivenessSettings := do
  let action ← hangActionOf (byteAt p 8)
  let c : LivenessSettings := { hbWindow := longAt p 0, silWindow := longAt p 4, action := action, limit := byteAt p 9 }
  if (c.hbWindow = 0 || inRange 1000 600000 c.hbWindow) && (c.silWindow = 0 || inRange 1000 3600000 c.silWindow)
      && c.limit ≤ 15 then some c
  else none

/-- R65. -/
def captureOf (p : List Byte) : Option Nat := if byteAt p 0 ≤ 63 then some (byteAt p 0) else none

/-! ### Acceptance (R162) -/

/-- An order that has passed its checks, with what it names. -/
inductive OrderAction where
  | power (n : NodeId) (c : PowerCode) (flags : Byte)
  | inject (n : NodeId) (item : TxPayload)
  | uartSet (n : NodeId) (u : UartSettings)
  | journalLayout (n : NodeId) (l : Option Layout)
  | tailFreeze (n : NodeId)
  | tailRelease (n : NodeId)
  | watchSet (i : WatchId) (f : WatchFields)
  | watchClear (i : WatchId)
  | watchRearm (i : WatchId) (nodes : BitVec 4)
  | attach (n : NodeId) (g : AttachFigures)
  | detach (n : NodeId) (k : DetachKind)
  | budgetSet (c : BudgetCfg)
  | profileSet (n : NodeId) (p : Profile)
  | livenessSet (n : NodeId) (c : LivenessSettings)
  | capture (n : NodeId) (slot : Nat)
deriving DecidableEq, Repr

abbrev Verdict := Except Refused OrderAction

def refuse (r : Result) : Verdict := .error { result := r, detail := 0 }

/-- Step 5 for an order with no flags of its own and one parameter block; `pass` is the order it names. -/
def withParams {α : Type} (flags : Byte) (params : Option α) (pass : α → Verdict) : Verdict :=
  if flags ≠ 0 then refuse .invalidParameter
  else
    match params with
    | none => refuse .invalidParameter
    | some a => pass a

/-- The checks of INJECT (R79). -/
def checkInject (d : Node) (n : NodeId) (c : SlotCopy) : Verdict :=
  if d.sq.pst = .absent then refuse .nodeAbsent
  else if d.ch.txq.length ≥ 4 then refuse .busy
  else withParams c.flags (itemOf c.params 64) fun i =>
    if d.sq.pwrEn then .ok (.inject n i) else refuse .incorrectState

/-- The checks of UART_SET (R70). -/
def checkUart (d : Node) (n : NodeId) (c : SlotCopy) : Verdict :=
  if !d.ch.txq.isEmpty then refuse .busy
  else withParams c.flags (uartOf c.params) fun u => .ok (.uartSet n u)

/-- The checks of TAIL_FREEZE (R102). -/
def checkFreeze (d : Node) (n : NodeId) (c : SlotCopy) : Verdict :=
  if c.flags ≠ 0 then refuse .invalidParameter
  else
    match freezeOutcome d.jr with
    | .skipped => refuse .invalidParameter
    | .missed => refuse .incorrectState
    | .frozen => .ok (.tailFreeze n)

/-- The checks of TAIL_RELEASE (R103). -/
def checkRelease (d : Node) (n : NodeId) (c : SlotCopy) : Verdict :=
  if c.flags ≠ 0 then refuse .invalidParameter
  else if d.jr.tail.held then .ok (.tailRelease n) else refuse .incorrectState

/-- A field of an entry's node set; empty while no WATCH_SET has set the entry. -/
def WatchEntry.nodeSet (e : WatchEntry) : BitVec 4 := (e.fields.map (·.nodeSet)).getD 0

/-- The checks of WATCH_REARM (R123). -/
def checkRearm (s : State) (t : Target) (c : SlotCopy) : Verdict :=
  withParams c.flags (indexOf (byteAt c.params 0)) fun i =>
    let e := s.watchEntry i
    let named : Option (BitVec 4) :=
      match t with
      | .shelf => some e.nodeSet
      | .node n => if e.nodeSet.getLsbD n.val then some (1 <<< n.val) else none
    match named with
    | none => refuse .invalidParameter
    | some nodes => if e.valid then .ok (.watchRearm i nodes) else refuse .incorrectState

/-- The checks of ATTACH (R142). -/
def checkAttach (d : Node) (n : NodeId) (c : SlotCopy) : Verdict :=
  if d.att.st = .detaching then refuse .busy
  else withParams c.flags (attachOf c.params) fun g =>
    if d.att.st = .attached then refuse .incorrectState else .ok (.attach n g)

/-- The checks of DETACH (R143). -/
def checkDetach (d : Node) (n : NodeId) (c : SlotCopy) : Verdict :=
  let force : Bool := c.flags &&& flagForce ≠ 0
  if d.att.st = .detaching ∧ (force = false ∨ d.att.detach = some .force) then refuse .busy
  else if c.flags &&& ~~~flagForce ≠ 0 then refuse .invalidParameter
  else if d.att.st = .none then refuse .incorrectState
  else .ok (.detach n (if force then .force else .plain))

/-- The orders that take a node (section 9.2), from step 3 on. -/
def checkNodeOrder (s : State) (o : OrderCode) (n : NodeId) (c : SlotCopy) : Verdict :=
  let d := s.node n
  match o with
  | .power p =>
    match powerCheck s n p c.flags with
    | some r => .error r
    | none => .ok (.power n p c.flags)
  | .inject => checkInject d n c
  | .uartSet => checkUart d n c
  | .journalLayout => withParams c.flags (layoutOf s n c.params) fun l => .ok (.journalLayout n l)
  | .tailFreeze => checkFreeze d n c
  | .tailRelease => checkRelease d n c
  | .watchRearm => checkRearm s (.node n) c
  | .attach => checkAttach d n c
  | .detach => checkDetach d n c
  | .profileSet => withParams c.flags (profileOf c.params) fun p => .ok (.profileSet n p)
  | .livenessSet => withParams c.flags (livenessOf c.params) fun l => .ok (.livenessSet n l)
  | .capture => withParams c.flags (captureOf c.params) fun k => .ok (.capture n k)
  | .watchSet | .watchClear | .budgetSet => refuse .invalidParameter

/-- A WATCH_SET names an entry and its fields (R121). -/
def watchSetOf (p : List Byte) : Option (WatchId × WatchFields) := do
  let i ← indexOf (byteAt p 0)
  let f ← watchFieldsOf p
  some (i, f)

/-- The orders that take the shelf, from step 3 on. -/
def checkShelfOrder (s : State) (o : OrderCode) (c : SlotCopy) : Verdict :=
  match o with
  | .watchSet => withParams c.flags (watchSetOf c.params) fun p => .ok (.watchSet p.1 p.2)
  | .watchClear => withParams c.flags (indexOf (byteAt c.params 0)) fun i => .ok (.watchClear i)
  | .watchRearm => checkRearm s .shelf c
  | .budgetSet => withParams c.flags (budgetOf c.params) fun b => .ok (.budgetSet b)
  | .power _ | .inject | .uartSet | .journalLayout | .tailFreeze | .tailRelease | .attach | .detach | .profileSet
  | .livenessSet | .capture => refuse .invalidParameter

/-- R162: the seven checks, in their fixed order; the first that fails gives the result. -/
def checkOrder (s : State) (c : SlotCopy) : Verdict :=
  match orderCodeOf c.code with
  | none => refuse .unknownOrder
  | some o =>
    match targetOf c.target with
    | none => refuse .invalidParameter
    | some (.node n) => checkNodeOrder s o n c
    | some .shelf => checkShelfOrder s o c

end Sys2Proof.Machine
end

