-- ==== Sys2Proof/Machine/Capture.lean ====
section
/-! DEFINITION. The capture record (R65 to R67, section 10.6). -/

namespace Sys2Proof.Machine

/-- The 32-bit field of an address counter; a free value where 32 bits do not hold it (assumption 12). -/
def counterField (n : Nat) : Word := if n < 0x100000000 then BitVec.ofNat 32 n else Config.counterField n

/-- The 8-bit field of a command's count; a free value where 8 bits do not hold it (assumption 12). -/
def countField (n : Nat) : Byte := if n < 0x100 then byteOf n else Config.countField n

/-- The order source field: 0xFF for none. -/
def orderSourceCode (o : Option PowerOrder) : Nat :=
  match o with
  | some o => o.src.code
  | none => 0xFF

/-- The order code field. In a node record it is 0 for none (R29); that it is so in a capture header is read from that
(assumption 46). -/
def orderCodeField (o : Option PowerOrder) : Nat :=
  match o with
  | some o => o.code.code
  | none => 0

/-- The order flags field: 0 for none, as `orderCodeField`. -/
def orderFlagsField (o : Option PowerOrder) : Byte :=
  match o with
  | some o => o.flags
  | none => 0

/-- An age as R51 forms it, modulo 2^32; 0 unless the node is RUNNING (R66). -/
def ageField (d : Node) (now origin : Word) : Word := if d.sq.pst = .running then now - origin else 0

/-- The code, first block, count and counter of the command in progress (R66, R127). With none the code is 0 (section 10.6); that
the other three then show 0 is the model's choice (assumption 43). -/
def commandFields (p : Port) : Nat × Nat × Byte × Word :=
  match p.cmd with
  | some c => (c.kind.code, c.first, countField c.count, counterField c.counter)
  | none => (0, 0, 0, 0)

/-- The body records a capture copies: the least of 28, body_count and B (R67). -/
def captureLines (s : State) (n : NodeId) : List (List Byte) :=
  let j := (s.node n).jr
  match j.layout with
  | none => []
  | some l => newestRecords s j l (newestCount j l 28)

/-- The header of a capture record, 512 bytes. `source` is a slot number, or a watch index + 0x20. -/
def captureHeader (s : State) (n : NodeId) (source slot : Nat) (lines : List (List Byte)) : List Byte :=
  let d := s.node n
  let q := d.sq
  let l := d.lv
  let (code, first, count, counter) := commandFields d.port
  padTo 512 (
    [byteOf n.val, byteOf source, byteOf slot, 0] ++ leWord s.msclk ++
    le16 q.boot.toNat ++ [byteOf q.pst.code, byteOf q.faultReason.code] ++ leWord q.since ++
    [byteOf (orderCodeField q.order), byteOf (orderSourceCode q.order), orderFlagsField q.order, 0] ++
    le16 (s.reservation n) ++ le16 s.total ++ le16 s.shelf.effective ++ le16 s.shelf.limit ++
    [boolByte s.shelf.isOver, byteOf (queuePlace s.shelf.queue n), byteOf d.ch.txq.length, byteOf d.hist.length] ++
    leWord (ageField d s.msclk l.hbOrigin) ++ leWord (ageField d s.msclk l.silOrigin) ++ leWord l.hungSince ++
    le16 l.edges ++ [boolByte l.hung, byteOf l.recovery, byteOf l.limit, byteOf l.action.code, 0, 0] ++
    le32 l.hbWindow ++ le32 l.silWindow ++ leWord d.events ++ padTo 24 d.hist ++
    [byteOf d.att.st.code, byteOf (s.ownedIn n .filling), byteOf (s.ownedIn n .clean), byteOf (s.ownedIn n .dirty),
     byteOf (s.ownedIn n .flushing), byteOf (s.ownedIn n .assembling), byteOf code, count] ++
    le32 first ++ leWord counter ++ [byteOf lines.length, 0, 0, 0] ++ leWord (firstSeq lines))

def captureAddr (slot : Nat) : Nat := Config.captureBase + slot * 4096

/-- R65: the whole record of 4096 bytes is written; positions beyond the line count are zeros (R67). -/
def writeCapture (s : State) (n : NodeId) (source slot : Nat) : State :=
  let lines := captureLines s n
  s.store (captureAddr slot) (padTo 4096 (captureHeader s n source slot lines ++ lines.flatten))

end Sys2Proof.Machine
end

