-- ==== Sys2Proof/Machine/Watch.lean ====
section
/-! DEFINITION. The Watch Matcher (chapter 6): the receive history, matching, firing and the actions, the watch orders. -/

namespace Sys2Proof.Machine

/-! ### Matching (R109, R110) -/

/-- R109: the byte joins the newest end; at most 24 bytes are held. -/
def appendHistory (h : List Byte) (b : Byte) : List Byte := (h ++ [b]).drop (h.length + 1 - 24)

/-- A letter of the English alphabet in lower case; any other byte as it is. -/
def lowerCase (b : Byte) : Byte := if 0x41 ≤ b.toNat ∧ b.toNat ≤ 0x5A then b + 0x20 else b

/-- R110: a pattern byte agrees with a history byte. -/
def agrees (fold : Bool) (p : Byte × Bool) (h : Byte) : Bool :=
  p.2 || p.1 = h || (fold && lowerCase p.1 = lowerCase h)

/-- Two lists agree, byte for byte. -/
def agreeAll (fold : Bool) : List (Byte × Bool) → List Byte → Bool
  | [], [] => true
  | p :: ps, h :: hs => agrees fold p h && agreeAll fold ps hs
  | _, _ => false

/-- R110: the pattern agrees with the newest bytes of the history. -/
def WatchFields.matchesSuffix (f : WatchFields) (h : List Byte) : Bool :=
  agreeAll f.fold f.pattern (h.drop (h.length - f.pattern.length))

/-- R110: entry e matches for node n. -/
def entryMatches (e : WatchEntry) (n : NodeId) (h : List Byte) : Bool :=
  match e.fields with
  | some f => e.valid && f.nodeSet.getLsbD n.val && (e.pairs.get n).armed && f.matchesSuffix h
  | none => false

/-! ### Actions (R115 to R120) -/

/-- R117: an ORDER action issues a power order with source the watch index. FORCE_OFF completes at once. -/
def orderAction (s : State) (i : WatchId) (n : NodeId) (code : PowerCode) (flags : Byte) : State × LastResult :=
  match powerCheck s n code flags with
  | some r => (s, .ended r.result)
  | none => (actPower s n code (.watch i) flags, if code = .forceOff then .ended .complete else .accepted)

/-- R115: what a MARK action records. -/
def markResult (j : Journal) : Result :=
  match j.layout with
  | none => .invalidParameter
  | some l => if j.room l then .complete else .busy

/-- R120: what a FREEZE_TAIL action records. -/
def freezeResult (j : Journal) : Result :=
  match freezeOutcome j with
  | .skipped => .invalidParameter
  | .missed => .incorrectState
  | .frozen => .complete

/-- The action of a firing entry, with the result it records. -/
def issueAction (s : State) (i : WatchId) (n : NodeId) (a : WatchAction) : State × LastResult :=
  match a with
  | .note => (s, .ended .complete)
  | .mark => (marker s n .watch i.val, .ended (markResult (s.node n).jr))
  | .inject p => (injectAction s n i p, .ended (injectCheck (s.node n)))
  | .power code flags => orderAction s i n code flags
  | .capture slot => (nodeEvent (writeCapture s n (i.val + 0x20) slot) n .autoOrder, .ended .complete)
  | .bootDone =>
    if (s.node n).sq.pst = .booting then (bootDone s n, .ended .complete) else (s, .ended .incorrectState)
  | .freezeTail => (freezeTail s n .watch, .ended (freezeResult (s.node n).jr))

/-! ### Firing (R111 to R113) -/

/-- R112: a match within the holdoff is counted and does nothing more. -/
def Pair.suppress (p : Pair) : Pair := { p with suppressed := bump 65535 p.suppressed }

/-- R113, steps 1 and 2. -/
def Pair.fire (p : Pair) (f : WatchFields) (now : Word) : Pair :=
  { p with fireCount := bump 65535 p.fireCount, fired := true, lastFire := now, holdoffT := startUnlessZero f.holdoffMs,
           armed := p.armed && f.arm = .every }

/-- R113: the pair fires, WATCH_FIRED is set, the action is issued and its result recorded. -/
def fireEntry (s : State) (i : WatchId) (n : NodeId) (f : WatchFields) : State :=
  let s := s.modPair i n fun p => p.fire f s.msclk
  let (s, r) := issueAction (nodeEvent s n .watchFired) i n f.action
  s.modPair i n fun p => { p with result := r }

/-- R111, step 3: one matching entry. -/
def takeMatch (n : NodeId) (s : State) (i : WatchId) : State :=
  match (s.watchEntry i).fields with
  | none => s
  | some f =>
    if (s.pair i n).holdoffT.isSome then s.modPair i n Pair.suppress else fireEntry s i n f

/-- R111: one received byte. The matching set is found first and taken in ascending index. -/
def matchByte (s : State) (n : NodeId) (b : Byte) : State :=
  let s := s.modNode n fun d => { d with hist := appendHistory d.hist b }
  (allIndexes.filter fun i => entryMatches (s.watchEntry i) n (s.node n).hist).foldl (takeMatch n) s

/-- R109: a node's history is emptied. -/
def clearHistory (s : State) (n : NodeId) : State := s.modNode n fun d => { d with hist := [] }

/-! ### Watch orders (R121 to R123) and the reset (R125) -/

/-- R121. -/
def setWatch (s : State) (i : WatchId) (f : WatchFields) : State :=
  s.modWatch i fun _ =>
    { valid := true, fields := some f,
      pairs := Vector.ofFn fun n => { Pair.full with armed := f.nodeSet.getLsbD n.val } }

/-- R122. -/
def clearWatch (s : State) (i : WatchId) : State :=
  s.modWatch i fun e => { e with valid := false, pairs := vmap e.pairs fun p => { p with armed := false } }

/-- R123. -/
def rearmWatch (s : State) (i : WatchId) (nodes : BitVec 4) : State :=
  s.modWatch i fun e =>
    { e with pairs := Vector.ofFn fun n =>
        if nodes.getLsbD n.val then { e.pairs.get n with armed := true } else e.pairs.get n }

/-- R125: at the start of a hold the holdoff timers stop and ACCEPTED becomes ABORTED. -/
def Pair.holdStart (p : Pair) : Pair :=
  { p with holdoffT := none, result := if p.result = .accepted then .ended .aborted else p.result }

/-- R125: at release the pairs of a valid EVERY entry are armed for every node of its set. -/
def WatchEntry.release (e : WatchEntry) : WatchEntry :=
  match e.fields with
  | some f =>
    if e.valid && f.arm = .every then
      { e with pairs := Vector.ofFn fun n =>
          if f.nodeSet.getLsbD n.val then { e.pairs.get n with armed := true } else e.pairs.get n }
    else e
  | none => e

/-- R112: a pair's holdoff timer expires. -/
def holdoffExpires (s : State) (i : WatchId) (n : NodeId) : State :=
  s.modPair i n fun p => { p with holdoffT := none }

end Sys2Proof.Machine
end

