-- ==== Sys2Proof/Machine/Orders.lean ====
section
/-! DEFINITION. The Order Engine (chapter 9): the post event, and what each accepted order does in it. -/

namespace Sys2Proof.Machine

/-- The header word of a slot (offset 0x04): code, target, flags. -/
def headerWord (code target flags : Byte) : List Byte := [code, target, flags, 0]

/-- R161, step 1: the slot's copy, from the exchange RAM. -/
def copySlot (s : State) (k : SlotId) : SlotCopy :=
  let a := slotAddr k
  let h := s.mem.readRun (a + 4) 3
  { (s.slot k) with code := h.getD 0 0, target := h.getD 1 0, flags := h.getD 2 0, params := s.mem.readRun (a + 0x38) 200 }

/-- R163: a refused order completes in the post event. -/
def refuseOrder (s : State) (k : SlotId) (r : Refused) : State := slotDone s k r.result r.detail

/-- R166: the unit that holds an accepted order. -/
def OrderAction.binding : OrderAction → Option Binding
  | .power n _ _ => some (.power n)
  | .inject n _ => some (.item n)
  | .detach n _ => some (.detach n)
  | _ => none

/-- R59, R162: an accepted power order from a slot sets recovery_count to 0 and acts. -/
def slotPower (s : State) (k : SlotId) (n : NodeId) (c : PowerCode) (flags : Byte) : State :=
  actPower (s.modLv n fun l => { l with recovery := 0 }) n c (.slot k) flags

/-- R71: an accepted UART_SET. -/
def installUart (s : State) (n : NodeId) (u : UartSettings) : State :=
  (endRequest s n .partialEnd).modCh n (·.setup u)

/-- R161, step 5: the unit acts. Long orders complete through their unit's report; the others complete here. -/
def runAction (s : State) (k : SlotId) (a : OrderAction) : State :=
  let done (s : State) : State := slotDone s k .complete 0
  match a with
  | .power n c flags => slotPower s k n c flags
  | .inject n i => s.modCh n (·.append { payload := i, src := .slot k })
  | .uartSet n u => done (installUart s n u)
  | .journalLayout n l => done (installLayout s n l)
  | .tailFreeze n => done (freezeTail s n .order)
  | .tailRelease n => done (releaseTail s n)
  | .watchSet i f => done (setWatch s i f)
  | .watchClear i => done (clearWatch s i)
  | .watchRearm i nodes => done (rearmWatch s i nodes)
  | .attach n g => done (installAttachment s n g)
  | .detach n kind => acceptDetach s n k.val kind
  | .budgetSet c => done (installBudget s c)
  | .profileSet n p => done (installProfile s n p)
  | .livenessSet n c => done (installLiveness s n c)
  | .capture n slot => done (writeCapture s n k.val slot)

/-- R161, steps 5 and 6: an order that passed is ACCEPTED and bound; one that completes in its event goes on to DONE. -/
def acceptOrder (s : State) (k : SlotId) (a : OrderAction) : State :=
  runAction (s.modSlot k fun c => { c with st := .accepted, binding := a.binding }) k a

/-- R161: the post event. -/
def postSlot (s : State) (k : SlotId) : State :=
  let c := copySlot s k
  let s := (s.modSlot k fun _ => c).store (slotAddr k + 0x14) (leWord s.msclk)
  match checkOrder s c with
  | .error r => refuseOrder s k r
  | .ok a => acceptOrder s k a

/-- The management processor writes the slot's header word and then POSTED. While INIT is 1, and to a slot in ACCEPTED, the
writes are refused: the model counts the one of the state word (assumption 6). -/
def postOrder (s : State) (k : SlotId) (code target flags : Byte) : State :=
  if s.init || (s.slot k).st = .accepted then refuseWrite s
  else postSlot (s.store (slotAddr k + 4) (headerWord code target flags)) k

/-- R160: FREE written to the state word. -/
def writeFree (s : State) (k : SlotId) : State :=
  if s.init || (s.slot k).st = .accepted then refuseWrite s else s.modSlot k fun c => { c with st := .free }

end Sys2Proof.Machine
end

