-- ==== Sys2Proof/Machine/Records.lean ====
section
/-! DEFINITION. The records and reflections the part shows in bank 0 (section 10.6, R178), and the update counts (R172). They
are computed from the state; only the counts and the shown values of deferred fields are stored. -/

namespace Sys2Proof.Machine

/-! ### The shelf record -/

/-- The node, rank and kind of the shed in progress, and its time. With none the node is 0xFF and the kind 0 (section 10.6); that
the rank and the time then show 0 is the model's choice (assumption 35). -/
def shedFields (h : Shelf) : List Byte × Word :=
  match h.shed with
  | some x => ([byteOf x.node.val, byteOf x.rank, byteOf x.kind.code], x.since)
  | none => ([0xFF, 0, 0], 0)

/-- The node and the result of the last shed. With none the node is 0xFF (R178); that the result then shows 0 is the model's choice
(assumption 35). -/
def lastShedFields (h : Shelf) : Byte × Byte :=
  match h.lastShed with
  | some (n, r) => (byteOf n.val, byteOf r.code)
  | none => (0xFF, 0)

/-- The shelf record from offset 0x0C. -/
def shelfBody (s : State) : List Byte :=
  let h := s.shelf
  let c := h.cfg
  let (shed, since) := shedFields h
  let (lastNode, lastResult) := lastShedFields h
  le16 c.bcfg ++ le16 c.headroom ++ [byteOf c.f2, byteOf c.f1, byteOf c.f0, boolByte c.shedEnable] ++ le32 c.staggerMs ++
  [byteOf (h.sampleA.toNat + 2 * h.sampleB.toNat), byteOf h.supplies, boolByte h.isOver, boolByte h.admitted] ++
  le16 h.effective ++ le16 h.limit ++ (allNodes.map s.reservation).flatMap le16 ++
  le16 s.total ++ [byteOf h.queue.length, 0] ++
  ((h.queue.map fun (n : NodeId) => byteOf n.val) ++ List.replicate 4 0xFF).take 4 ++
  leWord h.overSince ++ leWord h.lastAdmission ++ shed ++ [lastNode] ++ leWord since ++
  [lastResult, 0] ++ le16 h.dirtyLost

def shelfRecord (s : State) : List Byte :=
  padTo 256 (leWord s.records.shelf ++ leWord s.shelf.events ++ leWord s.shelf.ack ++ shelfBody s)

/-! ### The node records -/

/-- The levels byte; the inputs as they were last written. -/
def levelsByte (q : Sequencer) (p : Pins) : Byte :=
  byteOf (q.pwrEn.toNat + 2 * q.rst.toNat + 4 * q.btn.toNat + 8 * q.nmi.toNat + 16 * p.pgood.toNat + 32 * p.slpOff.toNat
    + 64 * p.pres.toNat + 128 * p.hbeat.toNat)

def powerFields (q : Sequencer) (p : Pins) : List Byte :=
  [byteOf q.pst.code, byteOf q.faultReason.code, byteOf q.prefetch.code, levelsByte q p] ++ leWord q.since ++
  le16 q.boot.toNat ++ [byteOf (orderCodeField q.order), orderFlagsField q.order] ++
  [byteOf (orderSourceCode q.order), q.last.code, q.last.result, 0] ++
  leWord ((q.order.map (·.since)).getD 0) ++ leWord q.last.detail ++ leWord q.last.time

/-- The last hang action: order code, result and time. With none the code and the result are 0 (R64); that the time then shows 0 is
the model's choice (assumption 42). -/
def hangFields (l : Liveness) : Byte × Byte × Word :=
  match l.lastHang with
  | some h => (byteOf ((h.action.order.map (·.code)).getD 0), byteOf h.result.code, h.time)
  | none => (0, 0, 0)

def livenessFields (l : Liveness) (w : Shown) : List Byte :=
  let (code, result, time) := hangFields l
  le32 l.hbWindow ++ le32 l.silWindow ++
  [byteOf l.action.code, byteOf l.limit, byteOf l.recovery, boolByte l.hung] ++ le16 w.edges ++ [code, result] ++
  leWord w.hbOrigin ++ leWord w.silOrigin ++ leWord l.hungSince ++ leWord time

def headFields (c : Channel) : Byte × Byte :=
  match c.txq with
  | [] => (0, 0xFF)
  | i :: _ => (byteOf i.payload.code, byteOf i.src.code)

/-- The layout the record shows. That every field shows 0 with no layout is the model's choice (assumption 37). -/
def layoutFields (j : Journal) : Layout :=
  j.layout.getD { base := 0, pinned := 0, body := 0, tail := 0, lossless := false }

def consoleFields (d : Node) (w : Shown) : List Byte :=
  let c := d.ch
  let u := c.settings
  let (kind, source) := headFields c
  let y := layoutFields d.jr
  le32 u.baud ++ [byteOf u.dataBits, byteOf u.parity.code, byteOf u.stopBits, byteOf (u.flowHold.toNat + 2 * d.rts.toNat)] ++
  le16 c.divisor ++ le16 u.idleFlushMs ++ le16 c.errorPpm ++ le16 w.framing ++ leWord w.rxBytes ++
  le16 c.breaks ++ [byteOf c.txq.length, kind, source, byteOf y.pinned, byteOf y.tail, boolByte y.lossless] ++
  le16 y.base ++ le16 y.body

def journalFields (j : Journal) : List Byte :=
  leWord j.lastSeq ++
  [byteOf j.pinnedCount, byteOf j.markersLost, byteOf j.tailMissed, byteOf (j.stalled.toNat + 2 * j.tail.held.toNat)] ++
  le64 j.bodyCount ++ le64 j.fence ++ le16 j.drop ++ [byteOf j.tail.count, byteOf j.tail.reason.code] ++
  leWord j.tail.time ++ leWord j.tail.firstSeq

/-- The port's part of the record; the counter as it was last written. -/
def portFields (s : State) (n : NodeId) (counter : Nat) : List Byte :=
  let p := (s.node n).port
  let (code, first, count, _) := commandFields p
  [byteOf (s.mpStat n), byteOf p.ctl, p.cmdWord.truncate 8, byteOf p.err.code] ++ leWord p.block ++ leWord p.count ++
  [byteOf code, count, p.lastCode, byteOf p.lastEnd.code] ++ le32 first ++ leWord (counterField counter) ++
  leWord p.lastTime

/-- The last failed transfer: kind, tag and result word. With none the kind is 0 (section 10.6); that the tag and the result word then
show 0 is the model's choice (assumption 45). -/
def failureFields (a : Attachment) : Byte × List Byte :=
  match a.lastFailure with
  | some x => (byteOf x.kind.code, le32 x.tag ++ leWord x.result)
  | none => (0, List.replicate 8 0)

def attachFields (s : State) (n : NodeId) : List Byte :=
  let a := (s.node n).att
  let g := a.fig
  let kind := (a.detach.map (·.code)).getD 0
  let (failKind, failRest) := failureFields a
  [byteOf a.st.code, boolByte g.readOnly, byteOf g.quota, byteOf g.dirtyLimit] ++ le32 g.capacity ++
  le32 g.fetchTimeoutMs ++ le32 g.flushAgeMs ++ le16 a.attachNumber.toNat ++ le16 a.discarded ++ le16 a.lateFills ++
  le16 a.fetchFailures ++ le16 a.flushFailures ++ [byteOf kind, byteOf a.detachSlot] ++
  [byteOf (s.ownedIn n .filling), byteOf (s.ownedIn n .clean), byteOf (s.ownedIn n .dirty),
   byteOf (s.ownedIn n .flushing), byteOf (s.ownedIn n .assembling), byteOf a.dirty.length, failKind, 0] ++ failRest

/-- A node record from offset 0x14, with the deferred fields as they were last written. -/
def nodeBody (s : State) (n : NodeId) (w : Shown) : List Byte :=
  let d := s.node n
  powerFields d.sq w.pins ++ livenessFields d.lv w ++ consoleFields d w ++ journalFields d.jr ++
  portFields s n w.counter ++ attachFields s n

def State.record (s : State) (n : NodeId) : NodeRecord := s.records.nodes.get n

def nodeRecord (s : State) (n : NodeId) : List Byte :=
  let d := s.node n
  let r := s.record n
  padTo 256 (leWord r.count ++ leWord d.events ++ leWord d.ack ++ leWord d.fenceLo ++ leWord d.fenceHi ++
    nodeBody s n r.shown)

/-- The identity extension, 64 bytes; it belongs to the node record (section 10.1). -/
def identityExtension (a : Attachment) : List Byte := padTo 64 (padTo 24 a.fig.model ++ padTo 16 a.fig.serial)

/-! ### Reflections and transfer entries -/

/-- The argument of a WATCH_SET, 36 bytes, in the canonical form of assumption 22. -/
def argumentBytes (a : WatchAction) : List Byte :=
  padTo 36 (match a with
    | .inject (.string t) => [1, byteOf t.length, 0, 0] ++ t
    | .inject (.brk ms) => [2, 0] ++ le16 ms
    | .power c f => [byteOf c.code, f, 0]
    | .capture k => [0x43, 0, byteOf k]
    | .note | .bootDone | .freezeTail | .mark => [])

/-- The wild flags, bit i for pattern byte i. -/
def wildNat : List (Byte × Bool) → Nat
  | [] => 0
  | (_, w) :: ps => w.toNat + 2 * wildNat ps

def watchFieldsBytes (valid : Bool) (f : Option WatchFields) : List Byte :=
  match f with
  | none => [boolByte valid] ++ List.replicate 71 0
  | some f =>
    [boolByte valid, byteOf f.nodeSet.toNat, byteOf f.pattern.length, boolByte f.fold, byteOf f.action.code,
     byteOf f.arm.code] ++ le16 f.holdoffMs ++ le32 (wildNat f.pattern) ++ padTo 24 (f.pattern.map (·.1)) ++
    argumentBytes f.action

def pairBytes (p : Pair) : List Byte :=
  [byteOf (p.armed.toNat + 2 * p.fired.toNat + 4 * p.holdoffT.isSome.toNat), byteOf p.result.code] ++ le16 p.fireCount ++
  le16 p.suppressed ++ [0, 0] ++ leWord p.lastFire

/-- A watch reflection from offset 0x04. -/
def watchBody (e : WatchEntry) : List Byte := watchFieldsBytes e.valid e.fields ++ e.pairs.toList.flatMap pairBytes

def watchRecord (s : State) (i : WatchId) : List Byte :=
  padTo 128 (leWord (s.records.watch.get i) ++ watchBody (s.watchEntry i))

/-- The index of a frame's posted entry, 0xFF for none. -/
def postedIndex (s : State) (f : FrameId) : Nat :=
  match allIndexes.find? fun (e : EntryId) => (s.entry e).st ≠ .free && (s.entry e).frame = f with
  | some e => e.val
  | none => 0xFF

def frameRecord (s : State) (f : FrameId) : List Byte :=
  let x := s.frame f
  let (node, tag) := match x.own with
    | some (n, t) => (n.val, t)
    | none => (0xFF, 0)
  [byteOf x.st.code, byteOf node, byteOf (x.expired.toNat + 2 * (s.held f).toNat), 0] ++ le32 tag ++ leWord x.dirtySince ++
  [byteOf (postedIndex s f), 0, 0, 0]

def entryRecord (x : Entry) : List Byte :=
  padTo 64 (le32 x.st.code ++ [byteOf ((x.kind.map (·.code)).getD 0), byteOf x.node, 0, 0] ++ le32 x.first ++ le32 x.count ++
    le32 x.offset ++ leWord x.time ++ leWord x.result)

/-! ### Update counts (R172) -/

/-- The deferred fields as they stand (R4, R51, R68, R127). -/
def Node.shown (d : Node) : Shown :=
  { edges := d.lv.edges, hbOrigin := d.lv.hbOrigin, silOrigin := d.lv.silOrigin, rxBytes := d.ch.rxBytes,
    framing := d.ch.framing, counter := (d.port.cmd.map (·.counter)).getD 0, pins := d.pins }

/-- R4: the input levels that have an effect in a node state; a level without effect is taken as low. PGOOD has one while PWR_EN is
asserted (R14, R19), SLP_OFF while RST is released (R20), HBEAT everywhere but in ABSENT (R52), and PRES always (R10, R11). -/
def Pins.effective (p : Pins) (st : PState) : Pins :=
  { pgood := p.pgood && st.powered, slpOff := p.slpOff && st.released, pres := p.pres, hbeat := p.hbeat && decide (st ≠ .absent) }

/-- An event changes a node record beyond its deferred fields. The words that stand beside the fields count too: the flags, event_ack
and fence_hi (R171, R173). A change of an input level that has an effect in the node's state is a change (R4); while the node is hung,
its liveness fields are not deferred (R51). -/
def nodeChanged (old new : State) (n : NodeId) : Bool :=
  let w := (old.record n).shown
  let d := old.node n
  let e := new.node n
  nodeBody old n w != nodeBody new n w || identityExtension d.att != identityExtension e.att
    || d.events != e.events || d.ack != e.ack || d.fenceHi != e.fenceHi
    || d.pins.effective d.sq.pst != e.pins.effective d.sq.pst
    || (d.lv.hung && (d.lv.edges != e.lv.edges || d.lv.hbOrigin != e.lv.hbOrigin || d.lv.silOrigin != e.lv.silOrigin))

/-- A deferred field, other than an input level, differs from what the record shows. -/
def staleShown (w v : Shown) : Bool := { w with pins := v.pins } != v

/-- The record written in one odd span: the count goes on by 2, every field is current. -/
def NodeRecord.written (r : NodeRecord) (v : Shown) : NodeRecord := { count := r.count + 2, shown := v, staleT := none }

/-- A node record after an event: written if the event changed it; otherwise a deferred change is to be shown within 100 ms. -/
def NodeRecord.after (r : NodeRecord) (changed : Bool) (v : Shown) : NodeRecord :=
  if changed then r.written v
  else if staleShown r.shown v && r.staleT.isNone then { r with staleT := some (Timer.start 100) }
  else r

def shelfChanged (old new : State) : Bool :=
  shelfBody old != shelfBody new || old.shelf.events != new.shelf.events || old.shelf.ack != new.shelf.ack

def watchChanged (old new : State) (i : WatchId) : Bool := watchBody (old.watchEntry i) != watchBody (new.watchEntry i)

def countAfter (changed : Bool) (c : Word) : Word := if changed then c + 2 else c

/-- R172: the update counts after an event that led from one state to another (assumption 8). -/
def publish (old new : State) : State :=
  { new with
    records :=
      { shelf := countAfter (shelfChanged old new) new.records.shelf,
        nodes := Vector.ofFn fun n => (new.record n).after (nodeChanged old new n) (new.node n).shown,
        watch := Vector.ofFn fun i => countAfter (watchChanged old new i) (new.records.watch.get i) } }

end Sys2Proof.Machine
end

