-- ==== Sys2Proof/Machine/Reset.lean ====
section
/-! DEFINITION. The two resets: the soft reset hold and its release (R177 and the chapters' own rules), full reset and
initialization (R176), and the interrupt registers (R174, R175). -/

namespace Sys2Proof.Machine

/-! ### The start of a hold (R30, R50, R64, R84, R105, R125, R140, R159, R169) -/

/-- R30: the order in progress ends without a result, every timer stops, and QUEUED goes to OFF. -/
def Sequencer.holdStart (q : Sequencer) (now : Word) : Sequencer :=
  { (if q.pst = .queued then q.enter .off now else q) with
    order := none, inrushT := none, pgT := none, resetT := none, gateT := none, bootT := none, buttonT := none,
    stopT := none, nmiT := none, dwellT := none, admT := none }

/-- R64: the hung flag is cleared, and an ACCEPTED hang result becomes ABORTED. -/
def Liveness.holdStart (l : Liveness) : Liveness :=
  { l with hung := false,
           lastHang := l.lastHang.map fun h =>
             { h with result := if h.result = .accepted then .ended .aborted else h.result } }

/-- R105. -/
def Journal.holdStart (j : Journal) : Journal := { j with asm := .empty, drop := 0, pendingLine := none }

def Node.holdStart (d : Node) (now : Word) : Node :=
  { d with sq := d.sq.holdStart now, lv := d.lv.holdStart, ch := d.ch.holdStart, jr := d.jr.holdStart,
           port := d.port.holdStart now, hist := [] }

/-- R50. -/
def Shelf.holdStart (h : Shelf) : Shelf := { h with queue := [], staggerT := none, shed := none }

/-- R125. -/
def WatchEntry.holdStart (e : WatchEntry) : WatchEntry := { e with pairs := vmap e.pairs Pair.holdStart }

/-- R177: a soft reset hold begins. -/
def beginHold (s : State) : State :=
  { s with
    init := true, hold := true,
    nodes := vmap s.nodes fun d => d.holdStart s.msclk,
    shelf := s.shelf.holdStart,
    watch := vmap s.watch WatchEntry.holdStart,
    frames := vmap s.frames fun f => { f with ageT := none } }

/-! ### The release (R30, R50, R64, R76, R125, R140, R159, R169, R177) -/

/-- R30: adoption is a RUNNING entry, even for a node that was RUNNING. -/
def adopt (s : State) (n : NodeId) : State :=
  s.modNode n fun d => { d with sq := d.sq.enter .running s.msclk, lv := d.lv.enterRunning s.msclk }

/-- R30: the state a node settles in. -/
def settleState (s : State) (n : NodeId) : State :=
  let d := s.node n
  if !d.pins.pres then leavePower s n .absent
  else if d.sq.pwrEn && d.pins.pgood then adopt s n
  else leavePower s n .off

/-- R30: the node settles; PRESENCE_CHANGED if its presence differs from before the hold. -/
def settleNode (s : State) (n : NodeId) : State :=
  let was := (s.node n).sq.pst
  let s := settleState s n
  let s := s.modNode n fun d =>
    { d with sq := { d.sq with faultReason := .none, prefetch := .none, order := none }, lv := { d.lv with recovery := 0 },
             ch := d.ch.enterMarkWait, port := d.port.resetValues }
  if (was = .absent) = ((s.node n).sq.pst = .absent) then s else nodeEvent s n .presenceChanged

/-- R159: the frames that hold data not known to be stored are counted, and every frame, entry and attachment is dropped. -/
def dropMedia (s : State) : State :=
  let lost := s.frames.toList.countP fun f => f.st = .dirty || f.st = .flushing
  { s with
    shelf := { s.shelf with dirtyLost := lost },
    frames := vmap s.frames fun f => { f with st := .free, own := none, expired := false, ageT := none },
    entries := Vector.replicate 32 .full, clean := [], waitList := [], waits := [],
    nodes := vmap s.nodes fun d => { d with att := { d.att with st := .none, detach := none, dirty := [] } } }

/-- R169: a slot still ACCEPTED completes ABORTED. -/
def abortSlot (s : State) (k : SlotId) : State :=
  if (s.slot k).st = .accepted then slotDone s k .aborted 0 else s

/-- R50: the supply pins are sampled, the last admission is forgotten, and the evaluation runs. -/
def releaseBudget (s : State) : State :=
  let before := s.shelf.supplies
  let s := s.modShelf fun h => { h with sampleA := s.supplyA, sampleB := s.supplyB, admitted := false }
  evaluateBudget (if s.shelf.supplies = before then s else shelfEvent s .supplyChanged)

/-- R177: the attention bits of the event sets that are not empty. -/
def raiseSets (s : State) : State :=
  let s := allNodes.foldl (fun s n => if (s.node n).events = 0 then s else setAttn s (.node n)) s
  if s.shelf.events = 0 then s else setAttn s .shelf

/-- R177: the release, as one event up to INIT 0 (assumption 15). -/
def releaseHold (s : State) : State :=
  let s := dropMedia { s with attn := 0, hold := false }
  let s := { s with watch := vmap s.watch WatchEntry.release }
  let s := releaseBudget (allNodes.foldl settleNode s)
  { raiseSets (allIndexes.foldl abortSlot s) with init := false }

/-! ### Full reset (R176) -/

/-- The RAM after the writes of initialization: bank 0 outside the management scratch, and the journal banks, hold 0. -/
def Memory.initialized (m : Memory) : Memory :=
  (m.clear 0 Config.scratchBase).clear Config.journalBase Config.frameBase

/-- R176: a full reset. The input levels and the queue are not the part's to reset (assumption 16). -/
def beginFullReset (s : State) : State :=
  State.full s.mem.initialized (vmap s.nodes (·.pins)) (vmap s.nodes (·.ch.rxd)) s.supplyA s.supplyB s.pending

/-- R176: initialization ends and the blocks sample their inputs. What register accesses and refused writes changed
meanwhile is kept. -/
def endInitialization (s : State) : State :=
  let t := beginFullReset s
  { t with
    init := false, attn := s.attn, attnEn := s.attnEn, refused := s.refused,
    nodes := vmap t.nodes fun d => { d with ch := d.ch.enterMarkWait } }

/-! ### The interrupt registers (R174, R175, R177) -/

def storeControl (s : State) (imode ien : Bool) : State := { s with imode := imode, ien := ien }

/-- A write of CTRL is ignored during the initialization of a full reset (R176). -/
def ctrlIgnored (s : State) : Bool := s.init && !s.hold

/-- R174: a write to ATTN clears each bit written as 1. -/
def writeAttn (s : State) (data : Word) : State := { s with attn := s.attn &&& ~~~(data.truncate 8) }

/-- R175: enabling a bit already set gives a pulse in pulse mode. -/
def writeAttnEn (s : State) (data : Word) : State :=
  let en : Byte := data.truncate 8
  let rises : Bool := s.attn &&& en &&& ~~~s.attnEn ≠ 0
  { s with attnEn := en, pulse := s.pulse || (s.ien && s.imode && rises) }

end Sys2Proof.Machine
end

