-- ==== Sys2Proof/Machine/Event.lean ====
section
/-! DEFINITION. The frame of every event: what ends it, which events the blocks take, and the millisecond tick. -/

namespace Sys2Proof.Machine

/-- The end of every event that a block takes: the budget evaluation if a sequencer reported to the Budget Unit (R36;
assumption 11), the wait timers (R153), and the update counts (R172). -/
def finish (old new : State) : State :=
  publish old (settleWaits (if budgetReported old new then evaluateBudget new else new))

/-- A block takes an event, unless a hold or initialization lasts, in which the blocks take none (R176, R177). -/
def blockEvent (s : State) (f : State → State) : State := if s.init then s else finish s (f s)

/-- An event on an input pin: the level is the input's at any time; the event is the block's. -/
def pinEvent (s : State) (level : State → State) (f : State → State) : State :=
  if s.init then level s else finish s (f (level s))

/-- A timer has run out: it runs, and its duration has elapsed. -/
def ranOut (t : Option Timer) : Bool := t.any fun t => t.duration ≤ t.elapsed

/-- A timer expires. A stopped timer does not expire (R5), nor does one that has not run out: one that was started again, restarted or
re-timed after the expiry was due (assumption 3). -/
def whenRanOut (t : Option Timer) (f : State → State) (s : State) : State := if ranOut t then f s else s

/-! ### The millisecond tick (R5, R174; assumption 2) -/

def Timer.tick (t : Timer) : Timer := { t with elapsed := min (t.elapsed + 1) t.duration }

def tickT (t : Option Timer) : Option Timer := t.map Timer.tick

/-- The timer reaches its duration at this tick. -/
def dueT (t : Option Timer) : Bool :=
  match t with
  | some t => t.elapsed + 1 = t.duration
  | none => false

/-- An age reaches a window at this tick. -/
def dueAge (runs : Bool) (age window : Nat) : Bool := runs && age + 1 = window

/-- The greatest window of section 3.1: an age stops there (assumption 30). -/
def ageTop : Nat := 3600000

def Sequencer.tick (q : Sequencer) : Sequencer :=
  { q with inrushT := tickT q.inrushT, pgT := tickT q.pgT, resetT := tickT q.resetT, gateT := tickT q.gateT,
           bootT := tickT q.bootT, buttonT := tickT q.buttonT, stopT := tickT q.stopT, nmiT := tickT q.nmiT,
           dwellT := tickT q.dwellT, admT := tickT q.admT }

def Liveness.tick (l : Liveness) (running : Bool) : Liveness :=
  if running then { l with hbAge := bump ageTop l.hbAge, silAge := bump ageTop l.silAge } else l

def TxPhase.tick : TxPhase → TxPhase
  | .brk t => .brk t.tick
  | .idle => .idle
  | .string => .string
  | .guard => .guard

def Node.tick (d : Node) : Node :=
  { d with sq := d.sq.tick, lv := d.lv.tick (d.sq.pst = .running),
           ch := { d.ch with idleT := tickT d.ch.idleT, tx := d.ch.tx.tick },
           port := { d.port with waitT := tickT d.port.waitT } }

def NodeRecord.tick (r : NodeRecord) : NodeRecord := { r with staleT := tickT r.staleT }

def whenDue (b : Bool) (i : Instr) : List Instr := if b then [i] else []

/-- The break timer of a BREAK item reaches its duration at this tick. -/
def dueBreak : TxPhase → Bool
  | .brk t => dueT (some t)
  | .idle | .string | .guard => false

/-- The expiries of one node at this tick. -/
def nodeExpiries (s : State) (n : NodeId) : List Instr :=
  let d := s.node n
  let q := d.sq
  whenDue (dueT q.inrushT) (.inrushTimerExpiry n) ++ whenDue (dueT q.pgT) (.powerGoodTimerExpiry n) ++
  whenDue (dueT q.resetT) (.resetTimerExpiry n) ++ whenDue (dueT q.gateT) (.gateTimerExpiry n) ++
  whenDue (dueT q.bootT) (.bootTimerExpiry n) ++ whenDue (dueT q.buttonT) (.buttonTimerExpiry n) ++
  whenDue (dueT q.stopT) (.stopTimerExpiry n) ++ whenDue (dueT q.nmiT) (.nmiTimerExpiry n) ++
  whenDue (dueT q.dwellT) (.dwellTimerExpiry n) ++ whenDue (dueT q.admT) (.admissionTimerExpiry n) ++
  whenDue (dueAge (hbRuns d) d.lv.hbAge d.lv.hbWindow) (.heartbeatWindowExpiry n) ++
  whenDue (dueAge (silRuns d) d.lv.silAge d.lv.silWindow) (.silenceWindowExpiry n) ++
  whenDue (dueT d.ch.idleT) (.idleFlushTimerExpiry n) ++ whenDue (dueBreak d.ch.tx) (.breakItemEnd n) ++
  whenDue (dueT d.port.waitT) (.waitTimerExpiry n) ++ whenDue (dueT (s.record n).staleT) (.deferredShowing n)

def pairExpiries (s : State) (i : WatchId) : List Instr :=
  allNodes.flatMap fun n => whenDue (dueT (s.pair i n).holdoffT) (.holdoffTimerExpiry i n)

/-- Every expiry of this tick, in a fixed order (assumption 2). -/
def expiries (s : State) : List Instr :=
  allNodes.flatMap (nodeExpiries s) ++ whenDue (dueT s.shelf.staggerT) .staggerTimerExpiry ++
  allIndexes.flatMap (pairExpiries s) ++ allFrames.flatMap fun f => whenDue (dueT (s.frame f).ageT) (.flushAgeExpiry f)

/-- Every timer of the blocks goes on by one millisecond. -/
def tickTimers (s : State) : State :=
  { s with
    nodes := vmap s.nodes Node.tick,
    shelf := { s.shelf with staggerT := tickT s.shelf.staggerT },
    watch := vmap s.watch fun e => { e with pairs := vmap e.pairs fun p => { p with holdoffT := tickT p.holdoffT } },
    frames := vmap s.frames fun f => { f with ageT := tickT f.ageT } }

/-- The 100 ms of the deferred showings, which the EMC counts during a hold too. -/
def tickRecords (s : State) : State :=
  { s with records := { s.records with nodes := vmap s.records.nodes NodeRecord.tick } }

/-- The deferred showings due at this tick during a hold. -/
def showings (s : State) : List Instr :=
  allNodes.flatMap fun n => whenDue (dueT (s.record n).staleT) (.deferredShowing n)

/-- One millisecond of MSCLK, with its expiries queued. MSCLK stands at 0 until a full reset ends (section 10.4); in a hold it
runs, and the blocks' timers are stopped. -/
def tick (s : State) : State :=
  let s := if ctrlIgnored s then s else { s with msclk := s.msclk + 1 }
  if ctrlIgnored s then s
  else if s.init then { tickRecords s with pending := s.pending ++ showings s }
  else { tickRecords (tickTimers s) with pending := s.pending ++ expiries s }

end Sys2Proof.Machine
end

