-- ==== Sys2Proof/Machine/Bus.lean ====
section
/-! DEFINITION. The management bus and the node service bus (R126, R170, R171, R173, sections 10.1 and 10.4): who owns a word,
what a write does, what a read returns. -/

namespace Sys2Proof.Machine

/-! ### Reads (R170) -/

/-- A byte of exchange memory as a management-bus read finds it. -/
def exchangeByte (s : State) (a : Nat) : Byte :=
  if a < 0x100 then (shelfRecord s).getD a 0
  else if a < 0x500 then (nodeRecord s (Fin.ofNat 4 ((a - 0x100) / 0x100))).getD ((a - 0x100) % 0x100) 0
  else if a < 0x800 then 0
  else if a < 0x1000 then (entryRecord (s.entry (Fin.ofNat 32 ((a - 0x800) / 0x40)))).getD ((a - 0x800) % 0x40) 0
  else if a < 0x3000 then
    if (a - 0x1000) % 0x100 < 4 then
      (le32 (s.slot (Fin.ofNat 32 ((a - 0x1000) / 0x100))).st.code).getD ((a - 0x1000) % 0x100) 0
    else s.mem.read a
  else if a < 0x4000 then (watchRecord s (Fin.ofNat 32 ((a - 0x3000) / 0x80))).getD ((a - 0x3000) % 0x80) 0
  else if a < 0x4600 then (frameRecord s (Fin.ofNat 96 ((a - 0x4000) / 0x10))).getD ((a - 0x4000) % 0x10) 0
  else if a < 0x4700 then
    (identityExtension (s.node (Fin.ofNat 4 ((a - 0x4600) / 0x40))).att).getD ((a - 0x4600) % 0x40) 0
  else if a < 0x4800 then 0
  else s.mem.read a

/-- IDENT (section 10.4). -/
def identWord : Word := 0x4C514400

/-- STAT: INIT, the supply and presence pins at their present levels, the refused-write count. -/
def State.stat (s : State) : Nat :=
  let present (n : NodeId) : Nat := (s.node n).pins.pres.toNat
  s.init.toNat + 2 * s.supplyA.toNat + 4 * s.supplyB.toNat + 8 * present 0 + 16 * present 1 + 32 * present 2
    + 64 * present 3 + 0x10000 * s.refused

/-- A read of a management register (section 10.4). -/
def registerRead (s : State) (offset : Nat) : Word :=
  match offset with
  | 0x00 => identWord
  | 0x04 => BitVec.ofNat 32 (s.hold.toNat + 2 * s.imode.toNat + 4 * s.ien.toNat)
  | 0x08 => BitVec.ofNat 32 s.stat
  | 0x0C => s.attn.setWidth 32
  | 0x10 => s.attnEn.setWidth 32
  | 0x14 => s.msclk
  | _ => 0

/-! ### Watched words (R171, R173) -/

/-- R173: the word is stored and the flags acknowledged leave the set. ATTN is left as it is. -/
def acknowledge (s : State) (r : AckRecord) (data : Word) : State :=
  match r with
  | .shelf => s.modShelf fun h => { h with ack := data, events := h.events &&& ~~~data }
  | .node n => s.modNode n fun d => { d with ack := data, events := d.events &&& ~~~data }

def writeAck (s : State) (r : AckRecord) (data : Word) : State := if s.init then refuseWrite s else acknowledge s r data

/-- R95, R171: a whole-word write of fence_hi. -/
def writeFenceHi (s : State) (n : NodeId) (data : Word) : State :=
  if s.init then refuseWrite s else fenceEvent (s.modNode n fun d => { d with fenceHi := data }) n

/-- R156, R157: a whole-word write of a transfer entry's state word, by the value and the entry's state. -/
def writeEntryState (s : State) (e : EntryId) (value : Nat) : State :=
  if s.init then refuseWrite s
  else
    match (s.entry e).st with
    | .free => refuseWrite s
    | .fetchPosted =>
      if value = 3 then fillReturned s e else if value = 5 then fetchReturnedFailed s e else refuseWrite s
    | .flushPosted =>
      if value = 4 then flushReturned s e else if value = 5 then flushReturnedFailed s e else refuseWrite s

/-- R160: a whole-word write of a slot's state word. -/
def writeSlotState (s : State) (k : SlotId) (data : Word) : State :=
  if s.init || (s.slot k).st = .accepted then refuseWrite s
  else if data = 0 then writeFree s k
  else if data = 1 then postSlot s k
  else refuseWrite s

/-! ### Exchange writes (R170, section 10.1) -/

/-- All four byte lanes: a whole-word write. -/
def wholeWord (lanes : BitVec 4) : Bool := lanes = 0xF

/-- Store the enabled bytes at an address of the RAM. -/
def storeLanes (s : State) (a : Nat) (lanes : BitVec 4) (data : Word) : State :=
  s.store a (mergeLanes lanes (s.mem.readRun a 4) data)

/-- The enabled bytes merged into a word. -/
def mergeWord (lanes : BitVec 4) (old data : Word) : Word := wordAt (mergeLanes lanes (leWord old) data) 0

/-- A write to a watched word: whole, or refused (R170). -/
def watched (s : State) (lanes : BitVec 4) (f : State → State) : State :=
  if wholeWord lanes then f s else refuseWrite s

def writeNodeWord (s : State) (n : NodeId) (offset : Nat) (lanes : BitVec 4) (data : Word) : State :=
  match offset with
  | 0x08 => watched s lanes fun s => writeAck s (.node n) data
  | 0x0C => s.modNode n fun d => { d with fenceLo := mergeWord lanes d.fenceLo data }
  | 0x10 => watched s lanes fun s => writeFenceHi s n data
  | _ => refuseWrite s

/-- R155: while an entry is posted, its state and result words are the management processor's. -/
def writeEntryWord (s : State) (e : EntryId) (offset : Nat) (lanes : BitVec 4) (data : Word) : State :=
  match offset with
  | 0x00 => watched s lanes fun s => writeEntryState s e data.toNat
  | 0x18 =>
    if (s.entry e).st = .free then refuseWrite s
    else s.modEntry e fun x => { x with result := mergeWord lanes x.result data }
  | _ => refuseWrite s

/-- R160: while a slot is ACCEPTED every write to it is refused. -/
def writeSlotWord (s : State) (k : SlotId) (offset : Nat) (lanes : BitVec 4) (data : Word) : State :=
  if offset = 0 then watched s lanes fun s => writeSlotState s k data
  else if (s.slot k).st = .accepted then refuseWrite s
  else storeLanes s (slotAddr k + offset) lanes data

/-- A write to bank 0, initialization and holds apart. -/
def writeBank0 (s : State) (a : Nat) (lanes : BitVec 4) (data : Word) : State :=
  if a < 0x100 then
    if a = 0x08 then watched s lanes fun s => writeAck s .shelf data else refuseWrite s
  else if a < 0x500 then writeNodeWord s (Fin.ofNat 4 ((a - 0x100) / 0x100)) ((a - 0x100) % 0x100) lanes data
  else if a < 0x800 then refuseWrite s
  else if a < 0x1000 then writeEntryWord s (Fin.ofNat 32 ((a - 0x800) / 0x40)) ((a - 0x800) % 0x40) lanes data
  else if a < 0x3000 then writeSlotWord s (Fin.ofNat 32 ((a - 0x1000) / 0x100)) ((a - 0x1000) % 0x100) lanes data
  else if a < Config.scratchBase then refuseWrite s
  else storeLanes s a lanes data

/-- R146: the frame is FILLING with its fetch posted. -/
def State.fillable (s : State) (f : FrameId) : Bool :=
  (s.frame f).st = .filling && allIndexes.any fun e => (s.entry e).st = .fetchPosted && (s.entry e).frame = f

/-- R170: a management-bus write of one word with its byte lanes; with no lane enabled, nothing is written. -/
def writeExchange (s : State) (word : BitVec 18) (lanes : BitVec 4) (data : Word) : State :=
  let a := word.toNat * 4
  if lanes = 0 then s
  else if a < Config.journalBase then (if s.init then refuseWrite s else writeBank0 s a lanes data)
  else if a < Config.frameBase then refuseWrite s
  else if a < Config.captureBase then
    if !s.init && s.fillable (Fin.ofNat 96 ((a - Config.frameBase) / 4096)) then storeLanes s a lanes data
    else refuseWrite s
  else storeLanes s a lanes data

/-! ### The node service bus (R126) -/

/-- R137, R140: a write of MP_CTL. During a hold IE and RST are stored without effect. -/
def writeCtl (s : State) (n : NodeId) (rst ie : Bool) : State :=
  if s.hold then s.modPort n fun p => { p with ie := ie, rst := rst }
  else if s.init then s
  else if rst then portResetOn s n ie
  else portResetOff s n ie

/-- R126: a write of MP_CMD. While BUSY, which a hold sets, it is ignored. -/
def writeCmd (s : State) (n : NodeId) (w : Word) : State := if s.init then s else takeCommand s n w

def writeMpData (s : State) (n : NodeId) (w : Word) : State := if s.init then s else writeData s n w

/-- R126: MP_BLOCK and MP_COUNT store any value while BUSY is clear. -/
def writeWindow (s : State) (n : NodeId) (f : Port → Port) : State :=
  if s.init || s.busy n then s else s.modPort n f

/-- A write to a port register; `none` where the port has no register. -/
def writePort (s : State) (n : NodeId) (offset : Nat) (data : Word) : Option State :=
  match offset with
  | 0x00 => some (writeCmd s n data)
  | 0x04 | 0x14 | 0x1C => some s
  | 0x08 => some (writeWindow s n fun p => { p with block := data })
  | 0x0C => some (writeWindow s n fun p => { p with count := data })
  | 0x10 => some (writeMpData s n data)
  | 0x18 => some (writeCtl s n (data.getLsbD 1) (data.getLsbD 0))
  | _ => none

/-! ### CTRL (R177) -/

/-- R177: a write to CTRL. The attention bits and records of a hold or a release follow in the same event. -/
def writeCtrl (s : State) (reset imode ien : Bool) : State :=
  if ctrlIgnored s then s
  else
    let t := storeControl s imode ien
    if reset then (if s.hold then t else publish s (beginHold t))
    else if s.hold then finish s (releaseHold t)
    else t

end Sys2Proof.Machine
end

