-- ==== Sys2Proof/Machine/OrderCommands.lean ====
section
/-! DEFINITION. The meanings of the order commands (chapter 9): the post of a slot with an order's code. -/

namespace Sys2Proof.Machine

/-- What every meaning answers. -/
abbrev Answer := Host.Outcome State Fault Refusal

/-- An order command: the slot's header word and then POSTED (R161), whole as one event. -/
def orderCommand (k : SlotId) (code target flags : Byte) (s : State) : Answer :=
  .next (finish s (postOrder s k code target flags))

/-- R12: POWER_ON. -/
def execPowerOn (k : SlotId) (target flags : Byte) (s : State) : Answer := orderCommand k 0x01 target flags s

/-- R21: POWER_OFF. -/
def execPowerOff (k : SlotId) (target flags : Byte) (s : State) : Answer := orderCommand k 0x02 target flags s

/-- R23: FORCE_OFF. -/
def execForceOff (k : SlotId) (target flags : Byte) (s : State) : Answer := orderCommand k 0x03 target flags s

/-- R24: RESET. -/
def execReset (k : SlotId) (target flags : Byte) (s : State) : Answer := orderCommand k 0x04 target flags s

/-- R60, R61: RESET_IF_HUNG. -/
def execResetIfHung (k : SlotId) (target flags : Byte) (s : State) : Answer := orderCommand k 0x05 target flags s

/-- R25: CYCLE. -/
def execCycle (k : SlotId) (target flags : Byte) (s : State) : Answer := orderCommand k 0x06 target flags s

/-- R27: NMI. -/
def execNmi (k : SlotId) (target flags : Byte) (s : State) : Answer := orderCommand k 0x07 target flags s

/-- R79: INJECT. -/
def execInject (k : SlotId) (target flags : Byte) (s : State) : Answer := orderCommand k 0x10 target flags s

/-- R70, R71: UART_SET. -/
def execUartSet (k : SlotId) (target flags : Byte) (s : State) : Answer := orderCommand k 0x11 target flags s

/-- R93, R94: JOURNAL_LAYOUT. -/
def execJournalLayout (k : SlotId) (target flags : Byte) (s : State) : Answer := orderCommand k 0x12 target flags s

/-- R102: TAIL_FREEZE. -/
def execTailFreeze (k : SlotId) (target flags : Byte) (s : State) : Answer := orderCommand k 0x13 target flags s

/-- R103: TAIL_RELEASE. -/
def execTailRelease (k : SlotId) (target flags : Byte) (s : State) : Answer := orderCommand k 0x14 target flags s

/-- R121: WATCH_SET. -/
def execWatchSet (k : SlotId) (target flags : Byte) (s : State) : Answer := orderCommand k 0x20 target flags s

/-- R122: WATCH_CLEAR. -/
def execWatchClear (k : SlotId) (target flags : Byte) (s : State) : Answer := orderCommand k 0x21 target flags s

/-- R123: WATCH_REARM. -/
def execWatchRearm (k : SlotId) (target flags : Byte) (s : State) : Answer := orderCommand k 0x22 target flags s

/-- R142: ATTACH. -/
def execAttach (k : SlotId) (target flags : Byte) (s : State) : Answer := orderCommand k 0x30 target flags s

/-- R143 to R145: DETACH. -/
def execDetach (k : SlotId) (target flags : Byte) (s : State) : Answer := orderCommand k 0x31 target flags s

/-- R47, R48: BUDGET_SET. -/
def execBudgetSet (k : SlotId) (target flags : Byte) (s : State) : Answer := orderCommand k 0x40 target flags s

/-- R28: PROFILE_SET. -/
def execProfileSet (k : SlotId) (target flags : Byte) (s : State) : Answer := orderCommand k 0x41 target flags s

/-- R62, R63: LIVENESS_SET. -/
def execLivenessSet (k : SlotId) (target flags : Byte) (s : State) : Answer := orderCommand k 0x42 target flags s

/-- R65: CAPTURE. -/
def execCapture (k : SlotId) (target flags : Byte) (s : State) : Answer := orderCommand k 0x43 target flags s

/-- R162, step 1: an order whose code is none of section 9.2. -/
def execUnknownOrder (k : SlotId) (code target flags : Byte) (s : State) : Answer := orderCommand k code target flags s

end Sys2Proof.Machine
end

