-- ==== Sys2Proof/Machine/BusCommands.lean ====
section
/-! DEFINITION. The meanings of the management-bus commands: exchange memory and the registers (chapter 10), and REGISTER_WRITE. -/

namespace Sys2Proof.Machine

/-- R160: FREE written to a slot's state word. -/
def execSlotFree (k : SlotId) (s : State) : Answer := .next (finish s (writeFree s k))

/-- R170: a write of one word of exchange memory. A whole-word write of a watched word is that word's event (R171). -/
def execExchangeWrite (word : BitVec 18) (lanes : BitVec 4) (data : Word) (s : State) : Answer :=
  .next (finish s (writeExchange s word lanes data))

/-- R95, R99: the fence event. -/
def execFenceHiWrite (n : NodeId) (data : Word) (s : State) : Answer := .next (finish s (writeFenceHi s n data))

/-- R173. -/
def execEventAckWrite (r : AckRecord) (data : Word) (s : State) : Answer := .next (finish s (writeAck s r data))

/-- R156: FILLED written to an entry's state word. -/
def execFetchFilled (e : EntryId) (s : State) : Answer := .next (finish s (writeEntryState s e 3))

/-- R156: FAILED written to an entry's state word. The entry's own state says which return it is (assumption 7). -/
def execFetchFailed (e : EntryId) (s : State) : Answer := .next (finish s (writeEntryState s e 5))

/-- R157: FLUSHED written to an entry's state word. -/
def execFlushFlushed (e : EntryId) (s : State) : Answer := .next (finish s (writeEntryState s e 4))

/-- R157: FAILED written to an entry's state word. The entry's own state says which return it is (assumption 7). -/
def execFlushFailed (e : EntryId) (s : State) : Answer := .next (finish s (writeEntryState s e 5))

/-- R174. -/
def execAttnWrite (data : Word) (s : State) : Answer := .next (writeAttn s data)

/-- R174, R175. -/
def execAttnEnWrite (data : Word) (s : State) : Answer := .next (writeAttnEn s data)

/-- R174: a write to a management register; the read-only ones and the offsets above 0x14 ignore it. -/
def writeRegister (s : State) (offset : Nat) (data : Word) : State :=
  match offset with
  | 0x04 => writeCtrl s (data.getLsbD 0) (data.getLsbD 1) (data.getLsbD 2)
  | 0x0C => writeAttn s data
  | 0x10 => writeAttnEn s data
  | _ => s

/-- R126, R174: a write to a register of the management bus or of a node service bus. -/
def execRegisterWrite (bus : RegBus) (offset data : Word) (s : State) : Answer :=
  match bus with
  | .management => .next (writeRegister s offset.toNat data)
  | .node n =>
    match writePort s n offset.toNat data with
    | some t => .next (finish s t)
    | none => .fault .noPortRegister

end Sys2Proof.Machine
end

