-- ==== Sys2Proof/Machine/ConsoleCommands.lean ====
section
/-! DEFINITION. The meanings of the console events: the receive framer, the bytes and breaks it delivers, the transmitter (chapter 4). -/

namespace Sys2Proof.Machine

/-- R73, R74: the channel counts a delivered byte; the framer's next state is by the last stop bit (R72). -/
def Channel.countByte (c : Channel) (m : Samples) : Channel :=
  { c.frameEnd m.endsHigh with
    rxBytes := c.rxBytes + 1, framing := if m.error then bump 65535 c.framing else c.framing }

/-- R73, R77: each delivered byte restarts the idle flush timer, for the idle_flush_ms in force. That a byte whose frame began before a
UART_SET and ends after it takes the new value is the model's choice (assumption 47). -/
def Channel.restartIdle (c : Channel) : Channel := { c with idleT := startUnlessZero c.settings.idleFlushMs }

/-- R73: a data byte: counted, matched, assembled, reported as a sign of life, and the idle flush timer restarted. R53 and R73 give
the report no place in this order; that it comes after the watch actions and the assembler is the model's choice (assumption 36). -/
def deliverByte (s : State) (n : NodeId) (m : Samples) : State :=
  let s := matchByte (s.modCh n (·.countByte m)) n m.byte
  let s := byteSignOfLife (assembleByte s n m.byte m.error) n
  s.modCh n (·.restartIdle)

/-- R75: the channel counts a break and stops the idle flush timer; RXD is low. -/
def Channel.countBreak (c : Channel) : Channel :=
  { c.frameEnd false with breaks := bump 65535 c.breaks, idleT := none }

/-- R75: a break. -/
def deliverBreak (s : State) (n : NodeId) : State :=
  clearHistory (endRequest (s.modCh n (·.countBreak)) n .brk) n

/-- R72: the end of a frame, classified by its samples: a break if every one was low. -/
def frameSampled (s : State) (n : NodeId) (data : Byte) (parity stop1 stop2 : Bool) : State :=
  let m := sampleFrame (s.node n).ch.sampling data parity stop1 stop2
  if m.isBreak then deliverBreak s n else deliverByte s n m

/-- The level of RXD, which is the input's at any time (R76). -/
def rxdLevel (s : State) (n : NodeId) (high : Bool) : State := s.modCh n fun c => { c with rxd := high }

/-- R72, R73: a frame ends with a data byte (assumption 10). During a hold it is lost (R76). -/
def execRxDataByte (n : NodeId) (data : Byte) (parity stop1 stop2 : Bool) (s : State) : Answer :=
  .next (pinEvent s (fun s => rxdLevel s n (sampleFrame (s.node n).ch.sampling data parity stop1 stop2).endsHigh)
    fun s => frameSampled s n data parity stop1 stop2)

/-- R72, R75: a frame ends with a break. -/
def execRxBreak (n : NodeId) (s : State) : Answer :=
  .next (pinEvent s (fun s => rxdLevel s n false) fun s => deliverBreak s n)

/-- R72: RXD falls; in IDLE a frame begins, under the settings in force. -/
def startEdge (c : Channel) : Channel :=
  match c.framer with
  | .idle => { c with framer := .frame c.settings.format }
  | .markWait | .frame _ => c

/-- R71, R72. -/
def execRxdStartEdge (n : NodeId) (s : State) : Answer :=
  .next (pinEvent s (fun s => rxdLevel s n false) fun s => s.modCh n startEdge)

/-- R72: the start was false; the framer returns to IDLE. -/
def falseStart (c : Channel) : Channel :=
  match c.framer with
  | .frame _ => { c with framer := .idle }
  | .markWait | .idle => c

/-- R72. -/
def execRxFalseStart (n : NodeId) (s : State) : Answer :=
  .next (pinEvent s (fun s => rxdLevel s n true) fun s => s.modCh n falseStart)

/-- R72: RXD high ends MARK_WAIT. -/
def markReturn (c : Channel) : Channel :=
  match c.framer with
  | .markWait => { c with framer := .idle }
  | .idle | .frame _ => c

/-- R72. -/
def execRxdMarkReturn (n : NodeId) (s : State) : Answer :=
  .next (pinEvent s (fun s => rxdLevel s n true) fun s => s.modCh n markReturn)

/-- R81: the last stop bit of the STRING at the head ends. -/
def stringSent (s : State) (n : NodeId) : State :=
  match (s.node n).ch.tx with
  | .string => headSent s n .idle
  | .idle | .brk _ | .guard => s

/-- R81. -/
def execStringItemSent (n : NodeId) (s : State) : Answer := .next (blockEvent s fun s => stringSent s n)

/-- R81: a break's duration has elapsed; the guard follows. -/
def breakSent (s : State) (n : NodeId) : State :=
  match (s.node n).ch.tx with
  | .brk t => whenRanOut (some t) (headSent · n .guard) s
  | .idle | .string | .guard => s

/-- R81. -/
def execBreakItemEnd (n : NodeId) (s : State) : Answer := .next (blockEvent s fun s => breakSent s n)

/-- R81: the guard ends and the next item begins. -/
def guardEnds (c : Channel) : Channel :=
  match c.tx with
  | .guard => { c with tx := .idle }.beginHead
  | .idle | .string | .brk _ => c

/-- R81. -/
def execBreakGuardEnd (n : NodeId) (s : State) : Answer := .next (blockEvent s fun s => s.modCh n guardEnds)

end Sys2Proof.Machine
end

