-- ==== Sys2Proof/Machine/PinCommands.lean ====
section
/-! DEFINITION. The meanings of the input pins' events (R10, R11, R14, R19, R20, R32, R52). -/

namespace Sys2Proof.Machine

/-- R10. -/
def execPresFall (n : NodeId) (s : State) : Answer :=
  .next (pinEvent s (fun s => s.modPins n fun p => { p with pres := false }) fun s => removeNode s n)

/-- R11. -/
def execPresRise (n : NodeId) (s : State) : Answer :=
  .next (pinEvent s (fun s => s.modPins n fun p => { p with pres := true }) fun s => insertNode s n)

/-- R14. -/
def execPgoodRise (n : NodeId) (s : State) : Answer :=
  .next (pinEvent s (fun s => s.modPins n fun p => { p with pgood := true }) fun s => pgoodUp s n)

/-- R14, R19, R20. -/
def execPgoodFall (n : NodeId) (s : State) : Answer :=
  .next (pinEvent s (fun s => s.modPins n fun p => { p with pgood := false }) fun s => pgoodDown s n)

/-- R20: only the rise acts (assumption 9). -/
def execSlpOffRise (n : NodeId) (level : Bool) (s : State) : Answer :=
  .next (pinEvent s (fun s => s.modPins n fun p => { p with slpOff := level }) fun s =>
    if level then slpOffUp s n else s)

/-- R52: only the rise acts (assumption 9). -/
def execHbeatRise (n : NodeId) (level : Bool) (s : State) : Answer :=
  .next (pinEvent s (fun s => s.modPins n fun p => { p with hbeat := level }) fun s =>
    if level then heartbeat s n else s)

/-- A supply pin changes its level. -/
def toggleSupply (p : SupplyPin) (s : State) : State :=
  match p with
  | .a => { s with supplyA := !s.supplyA }
  | .b => { s with supplyB := !s.supplyB }

/-- R32. -/
def execSupplyPinChange (p : SupplyPin) (s : State) : Answer := .next (pinEvent s (toggleSupply p) supplyChange)

end Sys2Proof.Machine
end

