-- ==== Sys2Proof/Machine/PortCommands.lean ====
section
/-! DEFINITION. The meanings of a node's accesses to its Media Port (chapter 7). -/

namespace Sys2Proof.Machine

/-- R129, R130: MP_CMD written READ. -/
def execRead (n : NodeId) (s : State) : Answer := .next (finish s (writeCmd s n 1))

/-- R129, R130: MP_CMD written WRITE. -/
def execWrite (n : NodeId) (s : State) : Answer := .next (finish s (writeCmd s n 2))

/-- R129, R136: MP_CMD written IDENTIFY. -/
def execIdentify (n : NodeId) (s : State) : Answer := .next (finish s (writeCmd s n 3))

/-- R129, R139: MP_CMD written FLUSH. -/
def execFlush (n : NodeId) (s : State) : Answer := .next (finish s (writeCmd s n 4))

/-- R129, check 1: MP_CMD written with another word. -/
def execBadCommand (n : NodeId) (w : Word) (s : State) : Answer := .next (finish s (writeCmd s n w))

/-- R135. -/
def execMpStatRead (n : NodeId) (s : State) : Answer := .next (finish s (readStat s n))

/-- R132, R133. -/
def execMpDataRead (n : NodeId) (s : State) : Answer := .next (finish s (readData s n))

/-- R132, R133. -/
def execMpDataWrite (n : NodeId) (w : Word) (s : State) : Answer := .next (finish s (writeMpData s n w))

/-- R137: MP_CTL written with RST 1. -/
def execPortResetSet (n : NodeId) (ie : Bool) (s : State) : Answer := .next (finish s (writeCtl s n true ie))

/-- R137: MP_CTL written with RST 0. -/
def execPortResetRelease (n : NodeId) (ie : Bool) (s : State) : Answer := .next (finish s (writeCtl s n false ie))

/-- R135, R137: MP_CTL written with RST at its present value: IE is stored. -/
def execInterruptEnableWrite (n : NodeId) (ie : Bool) (s : State) : Answer :=
  .next (finish s (writeCtl s n (s.node n).port.rst ie))

end Sys2Proof.Machine
end

