-- ==== Sys2Proof/Machine/ResetCommands.lean ====
section
/-! DEFINITION. The meanings of the commands of the two resets and of the interrupt control (R175 to R177). -/

namespace Sys2Proof.Machine

/-- R177: RESET written 1. -/
def execSoftResetHold (imode ien : Bool) (s : State) : Answer := .next (writeCtrl s true imode ien)

/-- R177: RESET written 0. -/
def execSoftResetRelease (imode ien : Bool) (s : State) : Answer := .next (writeCtrl s false imode ien)

/-- R175, R177: IMODE and IEN written, RESET with its present value. -/
def execInterruptControlWrite (imode ien : Bool) (s : State) : Answer := .next (writeCtrl s s.hold imode ien)

/-- R176: aux power-up, or RESET_N low. -/
def execFullReset (s : State) : Answer := .next (beginFullReset s)

/-- R176: initialization ends; at any other time this is no event. -/
def execInitializationEnd (s : State) : Answer := .next (if ctrlIgnored s then endInitialization s else s)

/-- R175: a pulse of ATTN_INT ends. -/
def execAttnIntPulseEnd (s : State) : Answer := .next { s with pulse := false }

/-- R51, R68, R127: the deferred fields are shown, in an odd span of their own (R172). -/
def showDeferred (s : State) (n : NodeId) : State :=
  let v := (s.node n).shown
  if ctrlIgnored s || !staleShown (s.record n).shown v then s
  else { s with records := { s.records with nodes := vmod s.records.nodes n fun r => r.written v } }

def execDeferredShowing (n : NodeId) (s : State) : Answer := .next (showDeferred s n)

end Sys2Proof.Machine
end

