-- ==== Sys2Proof/Machine/TimerCommands.lean ====
section
/-! DEFINITION. The meanings of the timer expiries. An expiry is an event only when its timer has run out (R5,
assumption 3). -/

namespace Sys2Proof.Machine

/-- A timer expires, if it has run out. -/
def expiry (s : State) (t : Option Timer) (f : State → State) : Answer := .next (blockEvent s (whenRanOut t f))

/-- A sequencer's timer acts at expiry in the states that section 1.2 names for it, and in no other. -/
def actsIn (q : Sequencer) (states : List PState) (t : Option Timer) : Option Timer :=
  if states.contains q.pst then t else none

/-- R14. -/
def execInrushTimerExpiry (n : NodeId) (s : State) : Answer :=
  expiry s (actsIn (s.node n).sq [.inrush] (s.node n).sq.inrushT) fun s => inrushExpires s n

/-- R14, R19. -/
def execPowerGoodTimerExpiry (n : NodeId) (s : State) : Answer :=
  expiry s (actsIn (s.node n).sq [.inrush] (s.node n).sq.pgT) fun s => powerGoodExpires s n

/-- R15. -/
def execResetTimerExpiry (n : NodeId) (s : State) : Answer :=
  expiry s (actsIn (s.node n).sq [.gated] (s.node n).sq.resetT) fun s => gateCheck (s.modSq n fun q => { q with resetT := none }) n

/-- R15. -/
def execGateTimerExpiry (n : NodeId) (s : State) : Answer :=
  expiry s (actsIn (s.node n).sq [.gated] (s.node n).sq.gateT) fun s => gateCheck (s.modSq n fun q => { q with gateT := none }) n

/-- R18. -/
def execBootTimerExpiry (n : NodeId) (s : State) : Answer :=
  expiry s (actsIn (s.node n).sq [.booting] (s.node n).sq.bootT) fun s => bootExpires s n

/-- R2: the button pulse ends. -/
def execButtonTimerExpiry (n : NodeId) (s : State) : Answer :=
  expiry s (actsIn (s.node n).sq [.stopping] (s.node n).sq.buttonT) fun s => s.modSq n fun q => { q with buttonT := none }

/-- R22. -/
def execStopTimerExpiry (n : NodeId) (s : State) : Answer :=
  expiry s (actsIn (s.node n).sq [.stopping] (s.node n).sq.stopT) fun s => stopExpires s n

/-- R27. -/
def execNmiTimerExpiry (n : NodeId) (s : State) : Answer :=
  expiry s (actsIn (s.node n).sq [.booting, .running] (s.node n).sq.nmiT) fun s => nmiExpires s n

/-- R26. -/
def execDwellTimerExpiry (n : NodeId) (s : State) : Answer :=
  expiry s (actsIn (s.node n).sq [.dwell] (s.node n).sq.dwellT) fun s => changeState s n .queued

/-- R13, R42. -/
def execAdmissionTimerExpiry (n : NodeId) (s : State) : Answer :=
  expiry s (actsIn (s.node n).sq [.queued] (s.node n).sq.admT) fun s => admissionExpires s n

/-- R40, R41: a BUDGET_SET taken first has moved the expiry to the new duration, and the head waits for it. -/
def execStaggerTimerExpiry (s : State) : Answer := expiry s s.shelf.staggerT staggerExpires

/-- R54, R55. -/
def execHeartbeatWindowExpiry (n : NodeId) (s : State) : Answer :=
  .next (blockEvent s fun s => if hbRunOut (s.node n) then hbExpires s n else s)

/-- R54, R55. -/
def execSilenceWindowExpiry (n : NodeId) (s : State) : Answer :=
  .next (blockEvent s fun s => if silRunOut (s.node n) then silExpires s n else s)

/-- R77, R89: a byte taken first has restarted the timer, and no flush occurs. -/
def execIdleFlushTimerExpiry (n : NodeId) (s : State) : Answer :=
  expiry s (s.node n).ch.idleT fun s => endRequest (s.modCh n fun c => { c with idleT := none }) n .partialEnd

/-- R112. -/
def execHoldoffTimerExpiry (i : WatchId) (n : NodeId) (s : State) : Answer :=
  expiry s (s.pair i n).holdoffT fun s => holdoffExpires s i n

/-- R153. -/
def execWaitTimerExpiry (n : NodeId) (s : State) : Answer :=
  expiry s (s.node n).port.waitT fun s => waitExpires s n

/-- R158. -/
def execFlushAgeExpiry (f : FrameId) (s : State) : Answer :=
  expiry s (s.frame f).ageT fun s => ageExpires s f

end Sys2Proof.Machine
end

