-- ==== Sys2Proof/Machine/Dispatch.lean ====
section
/-! DEFINITION. The dispatch of a command to its meaning, one arm per constructor. -/

namespace Sys2Proof.Machine

def exec (i : Instr) (s : State) : Host.Outcome State Fault Refusal :=
  match i with
  | .powerOn slot target flags => Sys2Proof.Machine.execPowerOn slot target flags s
  | .powerOff slot target flags => Sys2Proof.Machine.execPowerOff slot target flags s
  | .forceOff slot target flags => Sys2Proof.Machine.execForceOff slot target flags s
  | .reset slot target flags => Sys2Proof.Machine.execReset slot target flags s
  | .resetIfHung slot target flags => Sys2Proof.Machine.execResetIfHung slot target flags s
  | .cycle slot target flags => Sys2Proof.Machine.execCycle slot target flags s
  | .nmi slot target flags => Sys2Proof.Machine.execNmi slot target flags s
  | .inject slot target flags => Sys2Proof.Machine.execInject slot target flags s
  | .uartSet slot target flags => Sys2Proof.Machine.execUartSet slot target flags s
  | .journalLayout slot target flags => Sys2Proof.Machine.execJournalLayout slot target flags s
  | .tailFreeze slot target flags => Sys2Proof.Machine.execTailFreeze slot target flags s
  | .tailRelease slot target flags => Sys2Proof.Machine.execTailRelease slot target flags s
  | .watchSet slot target flags => Sys2Proof.Machine.execWatchSet slot target flags s
  | .watchClear slot target flags => Sys2Proof.Machine.execWatchClear slot target flags s
  | .watchRearm slot target flags => Sys2Proof.Machine.execWatchRearm slot target flags s
  | .attach slot target flags => Sys2Proof.Machine.execAttach slot target flags s
  | .detach slot target flags => Sys2Proof.Machine.execDetach slot target flags s
  | .budgetSet slot target flags => Sys2Proof.Machine.execBudgetSet slot target flags s
  | .profileSet slot target flags => Sys2Proof.Machine.execProfileSet slot target flags s
  | .livenessSet slot target flags => Sys2Proof.Machine.execLivenessSet slot target flags s
  | .capture slot target flags => Sys2Proof.Machine.execCapture slot target flags s
  | .unknownOrder slot code target flags => Sys2Proof.Machine.execUnknownOrder slot code target flags s
  | .slotFree slot => Sys2Proof.Machine.execSlotFree slot s
  | .exchangeWrite word lanes data => Sys2Proof.Machine.execExchangeWrite word lanes data s
  | .fenceHiWrite node data => Sys2Proof.Machine.execFenceHiWrite node data s
  | .eventAckWrite record data => Sys2Proof.Machine.execEventAckWrite record data s
  | .fetchFilled entry => Sys2Proof.Machine.execFetchFilled entry s
  | .fetchFailed entry => Sys2Proof.Machine.execFetchFailed entry s
  | .flushFlushed entry => Sys2Proof.Machine.execFlushFlushed entry s
  | .flushFailed entry => Sys2Proof.Machine.execFlushFailed entry s
  | .softResetHold imode ien => Sys2Proof.Machine.execSoftResetHold imode ien s
  | .softResetRelease imode ien => Sys2Proof.Machine.execSoftResetRelease imode ien s
  | .interruptControlWrite imode ien => Sys2Proof.Machine.execInterruptControlWrite imode ien s
  | .attnWrite data => Sys2Proof.Machine.execAttnWrite data s
  | .attnEnWrite data => Sys2Proof.Machine.execAttnEnWrite data s
  | .registerWrite bus offset data => Sys2Proof.Machine.execRegisterWrite bus offset data s
  | .fullReset => Sys2Proof.Machine.execFullReset s
  | .initializationEnd => Sys2Proof.Machine.execInitializationEnd s
  | .presFall node => Sys2Proof.Machine.execPresFall node s
  | .presRise node => Sys2Proof.Machine.execPresRise node s
  | .pgoodRise node => Sys2Proof.Machine.execPgoodRise node s
  | .pgoodFall node => Sys2Proof.Machine.execPgoodFall node s
  | .slpOffRise node level => Sys2Proof.Machine.execSlpOffRise node level s
  | .hbeatRise node level => Sys2Proof.Machine.execHbeatRise node level s
  | .supplyPinChange pin => Sys2Proof.Machine.execSupplyPinChange pin s
  | .inrushTimerExpiry node => Sys2Proof.Machine.execInrushTimerExpiry node s
  | .powerGoodTimerExpiry node => Sys2Proof.Machine.execPowerGoodTimerExpiry node s
  | .resetTimerExpiry node => Sys2Proof.Machine.execResetTimerExpiry node s
  | .gateTimerExpiry node => Sys2Proof.Machine.execGateTimerExpiry node s
  | .bootTimerExpiry node => Sys2Proof.Machine.execBootTimerExpiry node s
  | .buttonTimerExpiry node => Sys2Proof.Machine.execButtonTimerExpiry node s
  | .stopTimerExpiry node => Sys2Proof.Machine.execStopTimerExpiry node s
  | .nmiTimerExpiry node => Sys2Proof.Machine.execNmiTimerExpiry node s
  | .dwellTimerExpiry node => Sys2Proof.Machine.execDwellTimerExpiry node s
  | .admissionTimerExpiry node => Sys2Proof.Machine.execAdmissionTimerExpiry node s
  | .staggerTimerExpiry => Sys2Proof.Machine.execStaggerTimerExpiry s
  | .heartbeatWindowExpiry node => Sys2Proof.Machine.execHeartbeatWindowExpiry node s
  | .silenceWindowExpiry node => Sys2Proof.Machine.execSilenceWindowExpiry node s
  | .idleFlushTimerExpiry node => Sys2Proof.Machine.execIdleFlushTimerExpiry node s
  | .holdoffTimerExpiry entry node => Sys2Proof.Machine.execHoldoffTimerExpiry entry node s
  | .waitTimerExpiry node => Sys2Proof.Machine.execWaitTimerExpiry node s
  | .flushAgeExpiry frame => Sys2Proof.Machine.execFlushAgeExpiry frame s
  | .rxDataByte node data parity stop1 stop2 => Sys2Proof.Machine.execRxDataByte node data parity stop1 stop2 s
  | .rxBreak node => Sys2Proof.Machine.execRxBreak node s
  | .stringItemSent node => Sys2Proof.Machine.execStringItemSent node s
  | .breakItemEnd node => Sys2Proof.Machine.execBreakItemEnd node s
  | .breakGuardEnd node => Sys2Proof.Machine.execBreakGuardEnd node s
  | .attnIntPulseEnd => Sys2Proof.Machine.execAttnIntPulseEnd s
  | .deferredShowing node => Sys2Proof.Machine.execDeferredShowing node s
  | .read node => Sys2Proof.Machine.execRead node s
  | .write node => Sys2Proof.Machine.execWrite node s
  | .identify node => Sys2Proof.Machine.execIdentify node s
  | .flush node => Sys2Proof.Machine.execFlush node s
  | .badCommand node command => Sys2Proof.Machine.execBadCommand node command s
  | .mpStatRead node => Sys2Proof.Machine.execMpStatRead node s
  | .mpDataRead node => Sys2Proof.Machine.execMpDataRead node s
  | .mpDataWrite node data => Sys2Proof.Machine.execMpDataWrite node data s
  | .portResetSet node ie => Sys2Proof.Machine.execPortResetSet node ie s
  | .portResetRelease node ie => Sys2Proof.Machine.execPortResetRelease node ie s
  | .interruptEnableWrite node ie => Sys2Proof.Machine.execInterruptEnableWrite node ie s
  | .rxdStartEdge node => Sys2Proof.Machine.execRxdStartEdge node s
  | .rxFalseStart node => Sys2Proof.Machine.execRxFalseStart node s
  | .rxdMarkReturn node => Sys2Proof.Machine.execRxdMarkReturn node s

end Sys2Proof.Machine
end

