-- ==== Sys2Proof/Safety.lean ====
section
/-! DEFINITION. Safe runs, in the terms the statements use: a step that goes on, and the invariants of the part. -/

namespace Sys2Proof.Machine

/-- A step that answers a next state. -/
def Goes (s : State) : Prop := ∃ t, step s = .next t

/-- The canonical form of the exchange RAM. -/
def MemInv (s : State) : Prop := s.mem.wf

/-- R172: no update count is odd between events. -/
def CountsEven (s : State) : Prop :=
  s.records.shelf.getLsbD 0 = false ∧ (∀ n : NodeId, (s.record n).count.getLsbD 0 = false) ∧
    ∀ i : WatchId, (s.records.watch.get i).getLsbD 0 = false

/-- R38: the admission queue holds exactly the nodes in QUEUED, each once. -/
def QueueInv (s : State) : Prop :=
  s.shelf.queue.Nodup ∧ ∀ n : NodeId, n ∈ s.shelf.queue ↔ (s.node n).sq.pst = .queued

/-- R78: a transmit queue holds at most four items, and none while PWR_EN is deasserted. -/
def TxInv (s : State) : Prop :=
  ∀ n : NodeId, (s.node n).ch.txq.length ≤ 4 ∧ ((s.node n).sq.pwrEn = false → (s.node n).ch.txq = [])

/-- R59: a node's recovery_count never exceeds its recovery limit. -/
def RecoveryInv (s : State) : Prop := ∀ n : NodeId, (s.node n).lv.recovery ≤ (s.node n).lv.limit

/-- R109: a receive history holds at most 24 bytes. -/
def HistoryInv (s : State) : Prop := ∀ n : NodeId, (s.node n).hist.length ≤ 24

/-- R90, R95, R96: the pinned records stay within the pinned region, the fence never passes body_count, and in lossless mode the body
records not yet consumed never exceed the body. -/
def JournalInv (s : State) : Prop :=
  ∀ (n : NodeId) (l : Layout), (s.node n).jr.layout = some l →
    (s.node n).jr.pinnedCount ≤ l.pinned ∧ (s.node n).jr.fence ≤ (s.node n).jr.bodyCount ∧
      (l.lossless = true → (s.node n).jr.bodyCount - (s.node n).jr.fence ≤ l.body)

/-- R146: no two frames have the same node and tag. -/
def FramesUnique (s : State) : Prop :=
  ∀ (f g : FrameId) (k : NodeId × Nat), (s.frame f).own = some k → (s.frame g).own = some k → f = g

/-- R35: while the part runs, the shelf is OVER exactly when the total reservation exceeds the effective budget. -/
def ShelfInv (s : State) : Prop := s.init = false → (s.shelf.isOver = true ↔ s.total > s.shelf.effective)

/-! ### What a command leaves: the words of the statements -/

/-- `t` is `u` but for the RAM and for the update counts and shown values of the records (R172), which have statements of their
own. -/
def Becomes (t u : State) : Prop := { t with mem := u.mem, records := u.records } = u

/-- A byte after runs of bytes were stored, the last run that covers it counting. -/
def byteAfter (runs : List (Nat × List Byte)) (old : Byte) (x : Nat) : Byte :=
  runs.foldl (fun b r => if r.1 ≤ x ∧ x < r.1 + r.2.length then r.2.getD (x - r.1) 0 else b) old

/-- Every byte of the RAM reads as before, but for the runs stored, in their order. -/
def Writes (s t : State) (runs : List (Nat × List Byte)) : Prop :=
  ∀ x, t.mem.read x = byteAfter runs (s.mem.read x) x

/-- The wait timer of a node's command is to run (R153). -/
def State.waiting (s : State) (n : NodeId) : Bool :=
  match (s.node n).port.cmd with
  | some c => c.usesFrames && !s.data n
  | none => false

/-- R153: a command's wait timer runs exactly while DATA is clear for the frame at its counter. -/
abbrev WaitsSettled (s : State) : Prop := ∀ n : NodeId, (s.node n).port.waitT.isSome = s.waiting n

/-- R153: the wait timers stand as they should while the part runs. -/
def WaitInv (s : State) : Prop := s.init = false → WaitsSettled s

/-- The part runs: no hold and no initialization lasts, and the wait timers stand as the last event left them. -/
abbrev Operating (s : State) : Prop := s.init = false ∧ WaitsSettled s

/-- R137, R140: a port that RST or a hold keeps has no command in progress. -/
def PortInv (s : State) : Prop :=
  ∀ n : NodeId, s.hold = true ∨ (s.node n).port.rst = true → (s.node n).port.cmd = none

/-- The greatest figure of a profile that a reservation can name (R34). -/
def Profile.peak (p : Profile) : Nat := max (max p.standbyW p.inrushW) (max p.bootW p.steadyW)

/-- A budget evaluation (R36) has nothing to change: the shelf is NORMAL and within its budget, and no head can be admitted,
because the queue is empty or the stagger interval lasts (R40). -/
abbrev Calm (s : State) : Prop :=
  s.shelf.isOver = false ∧ s.total ≤ s.shelf.effective ∧ (s.shelf.queue = [] ∨ s.shelf.staggerPassed = false)

/-- The shelf is calm whatever the nodes' states: its budget covers every node at its greatest figure. -/
abbrev Ample (s : State) : Prop :=
  s.shelf.isOver = false ∧ (allNodes.map fun n => (s.node n).sq.profile.peak).sum ≤ s.shelf.effective ∧
    (s.shelf.queue = [] ∨ s.shelf.staggerPassed = false)

/-- A command does this in a state: it answers a next state, which is `u` but for the records' counts, and stores these runs. -/
def Does (c : Instr) (s u : State) (runs : List (Nat × List Byte)) : Prop :=
  ∃ t, exec c s = .next t ∧ Becomes t u ∧ Writes s t runs

/-! ### Orders in their slots (R161, R164) -/

/-- The target byte of a node. -/
def nodeByte (n : NodeId) : Byte := BitVec.ofNat 8 n.val

/-- The target byte of the shelf. -/
def shelfByte : Byte := 0xFF

/-- The parameter block of a slot, as it stands in exchange memory. -/
def slotParams (s : State) (k : SlotId) : List Byte := s.mem.readRun (slotAddr k + 0x38) 200

/-- A slot's copy after the post of an order. -/
def postedCopy (s : State) (k : SlotId) (code target flags : Byte) (st : SlotState) (b : Option Binding) : SlotCopy :=
  { st := st, code := code, target := target, flags := flags, params := slotParams s k, binding := b }

/-- The state with an order accepted in its slot and bound to the unit that holds it (R161, R166). -/
def acceptedIn (s : State) (k : SlotId) (code target flags : Byte) (b : Option Binding) : State :=
  s.modSlot k fun _ => postedCopy s k code target flags .accepted b

/-- The state with an order done in its slot, and ATTN.ORDER_DONE set (R164, R174). -/
def doneIn (s : State) (k : SlotId) (code target flags : Byte) : State :=
  setAttn (s.modSlot k fun _ => postedCopy s k code target flags .done none) .orderDone

/-- What a post stores in its slot: the header word and the time of acceptance. -/
def postRuns (s : State) (k : SlotId) (code target flags : Byte) : List (Nat × List Byte) :=
  [(slotAddr k + 4, [code, target, flags, 0]), (slotAddr k + 0x14, leWord s.msclk)]

/-- What the completion of an order stores in its slot: result and detail, and the time. -/
def doneRuns (s : State) (k : SlotId) (r : Result) (detail : Word) : List (Nat × List Byte) :=
  [(slotAddr k + 0x0C, le32 r.code ++ leWord detail), (slotAddr k + 0x18, leWord s.msclk)]

/-- The command that posts an order of a code (section 9.2). -/
def orderPosted (k : SlotId) (code target flags : Byte) : Instr :=
  match code.toNat with
  | 0x01 => .powerOn k target flags
  | 0x02 => .powerOff k target flags
  | 0x03 => .forceOff k target flags
  | 0x04 => .reset k target flags
  | 0x05 => .resetIfHung k target flags
  | 0x06 => .cycle k target flags
  | 0x07 => .nmi k target flags
  | 0x10 => .inject k target flags
  | 0x11 => .uartSet k target flags
  | 0x12 => .journalLayout k target flags
  | 0x13 => .tailFreeze k target flags
  | 0x14 => .tailRelease k target flags
  | 0x20 => .watchSet k target flags
  | 0x21 => .watchClear k target flags
  | 0x22 => .watchRearm k target flags
  | 0x30 => .attach k target flags
  | 0x31 => .detach k target flags
  | 0x40 => .budgetSet k target flags
  | 0x41 => .profileSet k target flags
  | 0x42 => .livenessSet k target flags
  | 0x43 => .capture k target flags
  | _ => .unknownOrder k code target flags

/-- The command that posts a power order. -/
def PowerCode.command (p : PowerCode) (k : SlotId) (target flags : Byte) : Instr :=
  match p with
  | .powerOn => .powerOn k target flags
  | .powerOff => .powerOff k target flags
  | .forceOff => .forceOff k target flags
  | .reset => .reset k target flags
  | .resetIfHung => .resetIfHung k target flags
  | .cycle => .cycle k target flags
  | .nmi => .nmi k target flags

/-- The states in which R7's table, and R60 for RESET_IF_HUNG, accept a power order. -/
def PowerCode.states : PowerCode → List PState
  | .powerOn => [.off, .fault]
  | .powerOff | .reset | .nmi => [.booting, .running]
  | .forceOff => [.queued, .inrush, .gated, .booting, .running, .stopping, .dwell, .fault]
  | .resetIfHung => [.running]
  | .cycle => [.inrush, .gated, .booting, .running, .stopping, .fault]

/-! ### Node states (R1, R3, R8, R38) -/

/-- A node with no command at its port, nothing to transmit and no journal layout. -/
abbrev QuietNode (s : State) (n : NodeId) : Prop :=
  (s.node n).port.cmd = none ∧ (s.node n).ch.txq = [] ∧ (s.node n).jr.layout = none

/-- The admission queue and the waiting prefetches after a node has moved to a state (R38, R39, R154). -/
def State.moved (s : State) (n : NodeId) (st : PState) : State :=
  { s with
    shelf := { s.shelf with queue := queueChange s.shelf.queue n st },
    waits := if st = .inrush ∨ st = .gated then s.waits else s.waits.filter (· ≠ .prefetch n) }

/-- What R3 leaves of a quiet node when its PWR_EN drops: the port at its reset values, the transmitter cut. -/
def Node.cutPower (d : Node) : Node :=
  if d.sq.pwrEn then { d with port := d.port.resetValues, ch := { d.ch with txq := [], tx := d.ch.tx.cut } } else d

/-- R8: an order in progress has completed. -/
def Sequencer.closed (q : Sequencer) (o : PowerOrder) (r : Result) (detail now : Word) : Sequencer :=
  { q with
    order := none,
    last := { code := byteOf o.code.code, result := byteOf r.code, detail := o.detail ||| detail, time := now } }

/-- R164: the slot of a completed order, and ATTN.ORDER_DONE. -/
def slotAnswered (s : State) (k : SlotId) : State :=
  setAttn (s.modSlot k fun c => { c with st := .done, binding := none }) .orderDone

/-- What R17 does at a node whose journal has no layout and whose boot timer is not off, its order aside. -/
def State.booted (s : State) (n : NodeId) : State :=
  { (s.moved n .booting).modNode n fun d =>
      { d with
        sq := { d.sq.enter .booting s.msclk with
                boot := d.sq.boot + 1, bootT := some (Timer.start (d.sq.profile.bootTimeoutS * 1000)) },
        lv := { d.lv.change .gated .booting s.msclk with edges := 0 },
        jr := { d.jr with pinnedCount := 0 } }
    with watch := vmap s.watch (rearmEntry n) }

/-- The command by which a node writes a word to MP_CMD (R129, section 7.3). -/
def portCommand (n : NodeId) (w : Word) : Instr :=
  if w = 1 then .read n else if w = 2 then .write n else if w = 3 then .identify n else if w = 4 then .flush n
  else .badCommand n w

/-! ### Parameter blocks as section 10.6 lays them out -/

/-- BUDGET_SET. -/
def BudgetCfg.block (c : BudgetCfg) : List Byte :=
  padTo 200 (le16 c.bcfg ++ le16 c.headroom ++ [byteOf c.f2, byteOf c.f1, byteOf c.f0, boolByte c.shedEnable] ++
    le32 c.staggerMs)

/-- PROFILE_SET. -/
def Profile.block (p : Profile) : List Byte :=
  padTo 200 (le16 p.standbyW ++ le16 p.inrushW ++ le16 p.bootW ++ le16 p.steadyW ++ le16 p.inrushMs ++ le16 p.pgTimeoutMs ++
    le16 p.resetMs ++ le16 p.buttonMs ++ le32 p.gateTimeoutMs ++ le16 p.bootTimeoutS ++ le16 p.stopTimeoutS ++
    le16 p.nmiMs ++ le16 p.offDwellMs ++ le16 p.admissionTimeoutS ++ [byteOf p.shedRank])

/-- LIVENESS_SET. -/
def LivenessSettings.block (l : LivenessSettings) : List Byte :=
  padTo 200 (le32 l.hbWindow ++ le32 l.silWindow ++ [byteOf l.action.code, byteOf l.limit])

/-- UART_SET. -/
def UartSettings.block (u : UartSettings) : List Byte :=
  padTo 200 (le32 u.baud ++ [byteOf u.dataBits, byteOf u.parity.code, byteOf u.stopBits, boolByte u.flowHold] ++
    le32 u.idleFlushMs)

end Sys2Proof.Machine
end

