-- ==== Sys2Proof/WellFormed.lean ====
section
/-! DEFINITION. Which commands name what the table says they name. The meanings are total and do not rely on it. -/

namespace Sys2Proof

/-- The order codes of section 9.2. -/
def orderCodes : List Byte :=
  [0x01, 0x02, 0x03, 0x04, 0x05, 0x06, 0x07, 0x10, 0x11, 0x12, 0x13, 0x14, 0x20, 0x21, 0x22, 0x30, 0x31, 0x40, 0x41,
   0x42, 0x43]

/-- The words of MP_CMD that name a command (section 7.3). -/
def commandWords : List Word := [0x01, 0x02, 0x03, 0x04]

/-- UNKNOWN_ORDER carries no code of section 9.2 (R162); BAD_COMMAND no word 0x01 to 0x04 (R129); an exchange write
enables at least one byte lane; a register offset is that of a whole word, and on a node service bus that of one of the
eight registers (R126, section 10.6). -/
def Instr.WellFormed : Instr → Bool
  | .unknownOrder _ code _ _ => !orderCodes.contains code
  | .badCommand _ command => !commandWords.contains command
  | .exchangeWrite _ lanes _ => lanes != 0
  | .registerWrite .management offset _ => offset.toNat % 4 == 0
  | .registerWrite (.node _) offset _ => offset.toNat % 4 == 0 && offset.toNat < 0x20
  | _ => true

end Sys2Proof
end

