-- ==== Sys2Proof/Certificates/Slice0/Obligations.lean ====
section
/-! DEFINITION. The statements for the provers. -/

open Sys2Proof Sys2Proof.Machine

/-! ### Power orders (chapter 1) -/

/-- R12: an accepted POWER_ON queues its node; while the stagger interval lasts it waits there. R21: an accepted
POWER_OFF presses the button and waits in STOPPING. Both while the part runs, with no order in progress at the node, a
slot that is not ACCEPTED and an ample shelf (NORMAL, with a budget that covers every node at its greatest figure, and
no head that could be admitted); the POWER_ON within an admission limit that covers inrush_w. -/
def Obligations.PowerOnQueuesAndPowerOffStops : Prop :=
  (∀ (s : State) (k : SlotId) (n : NodeId) (flags : Byte),
      Operating s → Ample s → s.shelf.staggerPassed = false → (s.slot k).st ≠ .accepted →
      (s.node n).sq.pst = .off ∨ (s.node n).sq.pst = .fault → (s.node n).sq.order = none →
      flags &&& ~~~flagPrefetch = 0 → (s.node n).sq.profile.inrushW ≤ s.shelf.limit →
      Does (.powerOn k (nodeByte n) flags) s
        ((acceptedIn (s.moved n .queued) k 0x01 (nodeByte n) flags (some (.power n))).modNode n fun d =>
          { d with
            sq := { d.sq.enter .queued s.msclk with
                    order := some { code := .powerOn, src := .slot k, flags := flags, since := s.msclk, detail := 0 },
                    admT := startUnlessZero (d.sq.profile.admissionTimeoutS * 1000) },
            lv := { d.lv with recovery := 0 } })
        (postRuns s k 0x01 (nodeByte n) flags)) ∧
  (∀ (s : State) (k : SlotId) (n : NodeId) (flags : Byte),
      Operating s → Ample s → (s.slot k).st ≠ .accepted →
      (s.node n).sq.pst = .booting ∨ (s.node n).sq.pst = .running →
      (s.node n).sq.order = none → flags &&& ~~~flagEscalate = 0 →
      Does (.powerOff k (nodeByte n) flags) s
        ((acceptedIn (s.moved n .stopping) k 0x02 (nodeByte n) flags (some (.power n))).modNode n fun d =>
          { d with
            sq := { d.sq.enter .stopping s.msclk with
                    order := some { code := .powerOff, src := .slot k, flags := flags, since := s.msclk, detail := 0 },
                    buttonT := some (Timer.start d.sq.profile.buttonMs),
                    stopT := some (Timer.start (d.sq.profile.stopTimeoutS * 1000)) },
            lv := { d.lv.change d.sq.pst .stopping s.msclk with recovery := 0 } })
        (postRuns s k 0x02 (nodeByte n) flags))

/-- R3, R23: an accepted FORCE_OFF turns its node off and completes in its own event. R3, R25: an accepted CYCLE turns
its node off into DWELL. Both while the part runs, at a node with no order in progress, no command at its port, an
empty transmit queue and no journal layout, on an ample shelf (NORMAL, with a budget that covers every node at its
greatest figure, and no head that could be admitted); the CYCLE within an admission limit that covers inrush_w. -/
def Obligations.ForceOffAndCycleCutPower : Prop :=
  (∀ (s : State) (k : SlotId) (n : NodeId),
      Operating s → Ample s → QuietNode s n → (s.slot k).st ≠ .accepted →
      (s.node n).sq.pst ≠ .absent → (s.node n).sq.pst ≠ .off → (s.node n).sq.order = none →
      Does (.forceOff k (nodeByte n) 0) s
        (doneIn ((s.moved n .off).modNode n fun d =>
          { d.cutPower with
            sq := { d.sq.enter .off s.msclk with last := { code := 0x03, result := 0, detail := 0, time := s.msclk } },
            lv := { d.lv.change d.sq.pst .off s.msclk with recovery := 0 } }) k 0x03 (nodeByte n) 0)
        (postRuns s k 0x03 (nodeByte n) 0 ++ doneRuns s k .complete 0)) ∧
  (∀ (s : State) (k : SlotId) (n : NodeId),
      Operating s → Ample s → QuietNode s n → (s.slot k).st ≠ .accepted →
      (s.node n).sq.pst ∈ [PState.inrush, .gated, .booting, .running, .stopping, .fault] →
      (s.node n).sq.order = none → (s.node n).sq.profile.inrushW ≤ s.shelf.limit →
      Does (.cycle k (nodeByte n) 0) s
        ((acceptedIn (s.moved n .dwell) k 0x06 (nodeByte n) 0 (some (.power n))).modNode n fun d =>
          { d.cutPower with
            sq := { d.sq.enter .dwell s.msclk with
                    order := some { code := .cycle, src := .slot k, flags := 0, since := s.msclk, detail := 0 },
                    dwellT := some (Timer.start d.sq.profile.offDwellMs) },
            lv := { d.lv.change d.sq.pst .dwell s.msclk with recovery := 0 },
            port := d.port.resetValues })
        (postRuns s k 0x06 (nodeByte n) 0))

/-- R24, R61: an accepted RESET, or RESET_IF_HUNG at a hung node, puts its node back in GATED with its port reset. R9:
it first supersedes the NMI in progress, whose slot goes to DONE with SUPERSEDED. Both while the part runs, at a node
with no command at its port, an empty transmit queue and no journal layout, on an ample shelf (NORMAL, with a budget
that covers every node at its greatest figure, and no head that could be admitted); a RESET that supersedes an NMI is
posted to another slot than the NMI's. -/
def Obligations.ResetGatesNode : Prop :=
  (∀ (s : State) (k : SlotId) (n : NodeId),
      Operating s → Ample s → QuietNode s n → (s.slot k).st ≠ .accepted → (s.node n).sq.order = none →
      let gated (b : Byte) (code : PowerCode) : State :=
        (acceptedIn (s.moved n .gated) k b (nodeByte n) 0 (some (.power n))).modNode n fun d =>
          { d with
            sq := { d.sq.enter .gated s.msclk with
                    order := some { code := code, src := .slot k, flags := 0, since := s.msclk, detail := 0 },
                    resetT := some (Timer.start d.sq.profile.resetMs),
                    gateT := if d.sq.prefetch = .waiting then startUnlessZero d.sq.profile.gateTimeoutMs else none },
            lv := { d.lv.change d.sq.pst .gated s.msclk with recovery := 0 },
            port := d.port.resetValues }
      ((s.node n).sq.pst = .booting ∨ (s.node n).sq.pst = .running →
        Does (.reset k (nodeByte n) 0) s (gated 0x04 .reset) (postRuns s k 0x04 (nodeByte n) 0)) ∧
      ((s.node n).sq.pst = .running → (s.node n).lv.hung = true →
        (s.node n).lv.hbWindow ≠ 0 ∨ (s.node n).lv.silWindow ≠ 0 →
        Does (.resetIfHung k (nodeByte n) 0) s (gated 0x05 .resetIfHung) (postRuns s k 0x05 (nodeByte n) 0))) ∧
  (∀ (s : State) (k j : SlotId) (n : NodeId) (o : PowerOrder),
      Operating s → Ample s → QuietNode s n → (s.slot k).st ≠ .accepted → j ≠ k →
      (s.node n).sq.pst = .running → (s.node n).sq.order = some o → o.code = .nmi → o.src = .slot j →
      Does (.reset k (nodeByte n) 0) s
        ((acceptedIn (slotAnswered (s.moved n .gated) j) k 0x04 (nodeByte n) 0 (some (.power n))).modNode n fun d =>
          { d with
            sq := { (d.sq.closed o .superseded 0 s.msclk).enter .gated s.msclk with
                    order := some { code := .reset, src := .slot k, flags := 0, since := s.msclk, detail := 0 },
                    resetT := some (Timer.start d.sq.profile.resetMs),
                    gateT := if d.sq.prefetch = .waiting then startUnlessZero d.sq.profile.gateTimeoutMs else none },
            lv := { d.lv.leaveRunning with recovery := 0 },
            port := d.port.resetValues })
        (postRuns s k 0x04 (nodeByte n) 0 ++ doneRuns s j .superseded o.detail))

/-- R27, R92: an accepted NMI starts its pulse and writes an NMI marker, the next body record of its node's ring.
Stated while the part runs, at a BOOTING or RUNNING node with no order in progress and a ring-mode layout. -/
def Obligations.NmiPulsesAndMarks : Prop :=
  ∀ (s : State) (k : SlotId) (n : NodeId) (l : Layout),
    Operating s → (s.slot k).st ≠ .accepted →
    (s.node n).sq.pst = .booting ∨ (s.node n).sq.pst = .running → (s.node n).sq.order = none →
    (s.node n).jr.layout = some l → l.lossless = false →
    Does (.nmi k (nodeByte n) 0) s
      ((acceptedIn s k 0x07 (nodeByte n) 0 (some (.power n))).modNode n fun d =>
        { d with
          sq := { d.sq with
                  order := some { code := .nmi, src := .slot k, flags := 0, since := s.msclk, detail := 0 },
                  nmiT := some (Timer.start d.sq.profile.nmiMs) },
          lv := { d.lv with recovery := 0 },
          jr := { d.jr with lastSeq := nextSeq d.jr.lastSeq, bodyCount := d.jr.bodyCount + 1 } })
      (postRuns s k 0x07 (nodeByte n) 0 ++
        [(lineAddr (l.bodySlot (s.node n).jr.bodyCount),
          markerRecord (nextSeq (s.node n).jr.lastSeq) (s.node n).sq.boot s.msclk .nmi (s.node n).sq.boot.toNat)])

/-- R7, R37, R162: the checks of a power order, in their order; the first that fails gives the result, and the refusal
changes nothing but the slot (R163). R60: RESET_IF_HUNG at a RUNNING node is refused UNDETERMINED while both checks
are off, and INCORRECT_STATE with detail NOT_HUNG while the node is not hung. While the part runs and the slot is not
ACCEPTED; the last check is that of POWER_ON and CYCLE against the admission limit. That flag bits 3 to 7 are no
order's own, so that one of them set is refused INVALID_PARAMETER, is the model's choice (assumption 14). Orders as
commands with slot, target and flags: assumption 6. -/
def Obligations.PowerOrderChecksInOrder : Prop :=
  (∀ (s : State) (k : SlotId) (n : NodeId) (p : PowerCode) (flags : Byte),
      Operating s → (s.slot k).st ≠ .accepted →
      let q := (s.node n).sq
      let refused (r : Result) : Prop :=
        Does (p.command k (nodeByte n) flags) s (doneIn s k (byteOf p.code) (nodeByte n) flags)
          (postRuns s k (byteOf p.code) (nodeByte n) flags ++ doneRuns s k r 0)
      if q.pst = .absent then refused .nodeAbsent
      else if p ∈ [PowerCode.powerOn, .powerOff, .nmi] ∧ q.order ≠ none then refused .busy
      else if flags &&& ~~~p.ownFlags ≠ 0 then refused .invalidParameter
      else if q.pst ∉ p.states then refused .incorrectState
      else p ∈ [PowerCode.powerOn, .cycle] → q.profile.inrushW > s.shelf.limit → refused .noBudget) ∧
  (∀ (s : State) (k : SlotId) (n : NodeId),
      Operating s → (s.slot k).st ≠ .accepted → (s.node n).sq.pst = .running →
      let u := doneIn s k 0x05 (nodeByte n) 0
      let runs (r : Result) (detail : Word) := postRuns s k 0x05 (nodeByte n) 0 ++ doneRuns s k r detail
      if (s.node n).lv.hbWindow = 0 ∧ (s.node n).lv.silWindow = 0 then
        Does (.resetIfHung k (nodeByte n) 0) s u (runs .undetermined 0)
      else (s.node n).lv.hung = false → Does (.resetIfHung k (nodeByte n) 0) s u (runs .incorrectState detailNotHung))

/-! ### The node's pins (R10, R11, R14, R19, R20, R52) -/

/-- R10: a fall of PRES takes a node to ABSENT; at an ABSENT node it is only a level. R11: when PRES rises, a node in
ABSENT goes to OFF, which reserves its standby figure, and PRESENCE_CHANGED is set. While the part runs, the moves on
an ample shelf (NORMAL, with a budget that covers every node at its greatest figure, and no head that could be
admitted); the fall at a node with no order in progress, no command at its port, an empty transmit queue and no
journal layout. At a node in a state other than ABSENT, where R11 says that no rise arrives, that only the level
changes is the model's choice (assumption 1). -/
def Obligations.PresencePinMovesNode : Prop :=
  (∀ (s : State) (n : NodeId), Operating s →
      ((s.node n).sq.pst = .absent →
        Does (.presFall n) s (s.modNode n fun d => { d with pins := { d.pins with pres := false } }) []) ∧
      (Ample s → QuietNode s n → (s.node n).sq.pst ≠ .absent → (s.node n).sq.order = none →
        Does (.presFall n) s
          (nodeEvent ((s.moved n .absent).modNode n fun d =>
            { d.cutPower with
              sq := d.sq.enter .absent s.msclk, lv := d.lv.change d.sq.pst .absent s.msclk, port := d.port.resetValues,
              pins := { d.pins with pres := false } }) n .presenceChanged) [])) ∧
  (∀ (s : State) (n : NodeId), Operating s →
      ((s.node n).sq.pst ≠ .absent →
        Does (.presRise n) s (s.modNode n fun d => { d with pins := { d.pins with pres := true } }) []) ∧
      (Ample s → (s.node n).sq.pst = .absent →
        let t := nodeEvent ((s.moved n .off).modNode n fun d =>
          { d with sq := d.sq.enter .off s.msclk, pins := { d.pins with pres := true } }) n .presenceChanged
        Does (.presRise n) s t [] ∧ t.reservation n = (s.node n).sq.profile.standbyW))

/-- R14: a rise of PGOOD in INRUSH is seen; with the inrush timer expired the node goes to GATED at once, and
elsewhere the rise is only a level. While the part runs; the move to GATED on an ample shelf (NORMAL, with a budget
that covers every node at its greatest figure, and no head that could be admitted). -/
def Obligations.PowerGoodRiseIsSeen : Prop :=
  ∀ (s : State) (n : NodeId), Operating s →
    ((s.node n).sq.pst ≠ .inrush ∨ (s.node n).sq.pgSeen = true →
      Does (.pgoodRise n) s (s.modNode n fun d => { d with pins := { d.pins with pgood := true } }) []) ∧
    ((s.node n).sq.pst = .inrush → (s.node n).sq.pgSeen = false → (s.node n).sq.inrushT ≠ none →
      Does (.pgoodRise n) s
        (s.modNode n fun d =>
          { d with pins := { d.pins with pgood := true }, sq := { d.sq with pgSeen := true, pgT := none } }) []) ∧
    (Ample s → (s.node n).sq.pst = .inrush → (s.node n).sq.pgSeen = false → (s.node n).sq.inrushT = none →
      Does (.pgoodRise n) s
        ((s.moved n .gated).modNode n fun d =>
          { d with
            pins := { d.pins with pgood := true }, lv := d.lv.change .inrush .gated s.msclk,
            sq := { d.sq.enter .gated s.msclk with
                    pgSeen := true, resetT := some (Timer.start d.sq.profile.resetMs),
                    gateT := if d.sq.prefetch = .waiting then startUnlessZero d.sq.profile.gateTimeoutMs else none } })
        [])

/-- R14, R19, R20: what a fall of PGOOD does by the node's state and the level of SLP_OFF; a rise of SLP_OFF turns a
node with RST released off; it completes a POWER_OFF in progress COMPLETE, and any other order ABORTED with NODE_OFF.
Any other change of the two pins is only a level. While the part runs; the moves of the node on an ample shelf
(NORMAL, with a budget that covers every node at its greatest figure, and no head that could be admitted), with no
command at the port, an empty transmit queue, no journal layout and, at the fall, no order in progress; an order that
the rise ends is that of a slot. The level operand of SLP_OFF is the model's (assumption 9). -/
def Obligations.PowerLossTurnsNodeOff : Prop :=
  (∀ (s : State) (n : NodeId), Operating s →
      let d := s.node n
      let low (d : Node) : Node := { d with pins := { d.pins with pgood := false } }
      (d.sq.pst ∈ [PState.absent, .off, .queued, .dwell, .fault] ∨ d.sq.pst = .inrush ∧ d.sq.pgSeen = false →
        Does (.pgoodFall n) s (s.modNode n low) []) ∧
      (Ample s → QuietNode s n → d.sq.order = none →
        d.sq.pst = .inrush ∧ d.sq.pgSeen = true ∨ d.sq.pst = .gated ∨ d.sq.pst.released = true ∧ d.pins.slpOff = false →
        Does (.pgoodFall n) s
          (nodeEvent ((s.moved n .fault).modNode n fun d =>
            { low d.cutPower with
              sq := { d.sq.enter .fault s.msclk with faultReason := .pgoodLost },
              lv := d.lv.change d.sq.pst .fault s.msclk }) n .fault) []) ∧
      (Ample s → QuietNode s n → d.sq.order = none → d.sq.pst.released = true → d.pins.slpOff = true →
        Does (.pgoodFall n) s
          ((s.moved n .off).modNode n fun d =>
            { low d.cutPower with sq := d.sq.enter .off s.msclk, lv := d.lv.change d.sq.pst .off s.msclk }) [])) ∧
  (∀ (s : State) (n : NodeId) (level : Bool) (o : PowerOrder) (j : SlotId), Operating s →
      (level = false ∨ (s.node n).sq.pst.released = false →
        Does (.slpOffRise n level) s (s.modNode n fun d => { d with pins := { d.pins with slpOff := level } }) []) ∧
      (Ample s → QuietNode s n → (s.node n).sq.pst.released = true →
        (s.node n).sq.order = some o → o.code = .powerOff → o.src = .slot j →
        Does (.slpOffRise n true) s
          (slotAnswered ((s.moved n .off).modNode n fun d =>
            { d.cutPower with
              sq := (d.sq.enter .off s.msclk).closed o .complete 0 s.msclk,
              lv := d.lv.change d.sq.pst .off s.msclk, pins := { d.pins with slpOff := true } }) j)
          (doneRuns s j .complete o.detail)) ∧
      (Ample s → QuietNode s n → (s.node n).sq.pst.released = true → (s.node n).sq.order = none →
        Does (.slpOffRise n true) s
          ((s.moved n .off).modNode n fun d =>
            { d.cutPower with
              sq := d.sq.enter .off s.msclk, lv := d.lv.change d.sq.pst .off s.msclk,
              pins := { d.pins with slpOff := true } }) []) ∧
      (Ample s → QuietNode s n → (s.node n).sq.pst.released = true →
        (s.node n).sq.order = some o → o.code ≠ .powerOff → o.src = .slot j →
        Does (.slpOffRise n true) s
          (slotAnswered ((s.moved n .off).modNode n fun d =>
            { d.cutPower with
              sq := (d.sq.enter .off s.msclk).closed o .aborted detailNodeOff s.msclk,
              lv := d.lv.change d.sq.pst .off s.msclk, pins := { d.pins with slpOff := true } }) j)
          (doneRuns s j .aborted (o.detail ||| detailNodeOff))))

/-- R52, R54: a rising edge of HBEAT is counted except in ABSENT; in RUNNING it is a sign of life. The falling edge is
not counted. While the part runs; the sign of life where the heartbeat check is on. The level operand is the model's
(assumption 9). -/
def Obligations.HeartbeatEdgeIsCounted : Prop :=
  ∀ (s : State) (n : NodeId), Operating s →
    let level (b : Bool) (d : Node) : Node := { d with pins := { d.pins with hbeat := b } }
    Does (.hbeatRise n false) s (s.modNode n (level false)) [] ∧
    ((s.node n).sq.pst = .absent → Does (.hbeatRise n true) s (s.modNode n (level true)) []) ∧
    ((s.node n).sq.pst ≠ .absent → (s.node n).sq.pst ≠ .running →
      Does (.hbeatRise n true) s
        (s.modNode n fun d => { level true d with lv := { d.lv with edges := bump 65535 d.lv.edges } }) []) ∧
    ((s.node n).sq.pst = .running → (s.node n).lv.hbWindow ≠ 0 →
      Does (.hbeatRise n true) s
        (s.modNode n fun d =>
          { level true d with
            lv := { d.lv with
                    edges := bump 65535 d.lv.edges, hbOrigin := s.msclk, hbAge := 0, hbReached := false,
                    hung := false } }) [])

/-- R176, R177: while a hold or an initialization lasts the blocks take no event of a pin; only its level changes. R5,
R41, R55, R77, R81: the expiry of a timer that does not run, or that has not run out, changes nothing: one that was
stopped and started again, that a BUDGET_SET has re-timed, or that a heartbeat or a byte has restarted, since the
expiry was due; so too the end of a break whose duration has not elapsed. That such an expiry can arrive, and the
level operands, are the model's (assumptions 3 and 9). -/
def Obligations.IdleInputsChangeNothing : Prop :=
  (∀ (s : State) (n : NodeId) (level : Bool), s.init = true →
      let pins (f : Pins → Pins) : State := s.modNode n fun d => { d with pins := f d.pins }
      Does (.presFall n) s (pins fun p => { p with pres := false }) [] ∧
      Does (.presRise n) s (pins fun p => { p with pres := true }) [] ∧
      Does (.pgoodRise n) s (pins fun p => { p with pgood := true }) [] ∧
      Does (.pgoodFall n) s (pins fun p => { p with pgood := false }) [] ∧
      Does (.slpOffRise n level) s (pins fun p => { p with slpOff := level }) [] ∧
      Does (.hbeatRise n level) s (pins fun p => { p with hbeat := level }) [] ∧
      Does (.supplyPinChange .a) s { s with supplyA := !s.supplyA } [] ∧
      Does (.supplyPinChange .b) s { s with supplyB := !s.supplyB } []) ∧
  (∀ (s : State) (n : NodeId) (i : WatchId) (f : FrameId), Operating s →
      let q := (s.node n).sq
      (ranOut q.inrushT = false → Does (.inrushTimerExpiry n) s s []) ∧
      (ranOut q.pgT = false → Does (.powerGoodTimerExpiry n) s s []) ∧
      (ranOut q.resetT = false → Does (.resetTimerExpiry n) s s []) ∧
      (ranOut q.gateT = false → Does (.gateTimerExpiry n) s s []) ∧
      (ranOut q.bootT = false → Does (.bootTimerExpiry n) s s []) ∧
      (ranOut q.buttonT = false → Does (.buttonTimerExpiry n) s s []) ∧
      (ranOut q.stopT = false → Does (.stopTimerExpiry n) s s []) ∧
      (ranOut q.nmiT = false → Does (.nmiTimerExpiry n) s s []) ∧
      (ranOut q.dwellT = false → Does (.dwellTimerExpiry n) s s []) ∧
      (ranOut q.admT = false → Does (.admissionTimerExpiry n) s s []) ∧
      (ranOut s.shelf.staggerT = false → Does .staggerTimerExpiry s s []) ∧
      (hbRuns (s.node n) = false ∨ (s.node n).lv.hbAge < (s.node n).lv.hbWindow →
        Does (.heartbeatWindowExpiry n) s s []) ∧
      (silRuns (s.node n) = false ∨ (s.node n).lv.silAge < (s.node n).lv.silWindow →
        Does (.silenceWindowExpiry n) s s []) ∧
      (ranOut (s.node n).ch.idleT = false → Does (.idleFlushTimerExpiry n) s s []) ∧
      (ranOut (s.pair i n).holdoffT = false → Does (.holdoffTimerExpiry i n) s s []) ∧
      (ranOut (s.node n).port.waitT = false → Does (.waitTimerExpiry n) s s []) ∧
      (ranOut (s.frame f).ageT = false → Does (.flushAgeExpiry f) s s []) ∧
      (∀ b, (s.node n).ch.tx = .brk b → b.elapsed < b.duration → Does (.breakItemEnd n) s s []))

/-! ### The sequencer's timers (R5, R13 to R15, R17 to R19, R22, R26, R27, R42) -/

/-- R14, R15, R19: the inrush timer takes a node whose PGOOD was seen to GATED and leaves another waiting; the
power-good timer takes a node whose PGOOD was not seen to FAULT. R8, R164: its order completes FAULTED with NO_PGOOD,
and its slot goes to DONE. While the part runs; the moves of the node on an ample shelf (NORMAL, with a budget that
covers every node at its greatest figure, and no head that could be admitted), and that to FAULT with the order in
progress that of a slot, no command at the port, an empty transmit queue and no journal layout. -/
def Obligations.InrushAndPowerGoodExpiries : Prop :=
  ∀ (s : State) (n : NodeId) (o : PowerOrder) (j : SlotId), Operating s → (s.node n).sq.pst = .inrush →
    (ranOut (s.node n).sq.inrushT = true → (s.node n).sq.pgSeen = false →
      Does (.inrushTimerExpiry n) s (s.modNode n fun d => { d with sq := { d.sq with inrushT := none } }) []) ∧
    (Ample s → ranOut (s.node n).sq.inrushT = true → (s.node n).sq.pgSeen = true →
      Does (.inrushTimerExpiry n) s
        ((s.moved n .gated).modNode n fun d =>
          { d with
            lv := d.lv.change .inrush .gated s.msclk,
            sq := { d.sq.enter .gated s.msclk with
                    resetT := some (Timer.start d.sq.profile.resetMs),
                    gateT := if d.sq.prefetch = .waiting then startUnlessZero d.sq.profile.gateTimeoutMs else none } })
        []) ∧
    (Ample s → QuietNode s n → (s.node n).sq.order = some o → o.src = .slot j → ranOut (s.node n).sq.pgT = true →
      (s.node n).sq.pgSeen = false →
      Does (.powerGoodTimerExpiry n) s
        (nodeEvent (slotAnswered ((s.moved n .fault).modNode n fun d =>
          { d.cutPower with
            sq := { (d.sq.closed o .faulted detailNoPgood s.msclk).enter .fault s.msclk with faultReason := .noPgood },
            lv := d.lv.change .inrush .fault s.msclk }) j) n .fault)
        (doneRuns s j .faulted (o.detail ||| detailNoPgood)))

/-- R15, R17: with no prefetch waiting the reset timer takes a node from GATED to a new boot, and completes its RESET;
the gate timer lets a waiting prefetch go, and GATE_EXPIRED joins the order's detail. R18, R54: the boot timer takes a
node to RUNNING unconfirmed, and completes its POWER_ON with that detail. While the part runs, on an ample shelf
(NORMAL, with a budget that covers every node at its greatest figure, and no head that could be admitted), with the
order in progress that of a slot; the moves from GATED at a node with no journal layout and a boot timeout. -/
def Obligations.GateAndBootTimers : Prop :=
  (∀ (s : State) (n : NodeId) (o : PowerOrder) (j : SlotId),
      Operating s → Ample s → (s.node n).jr.layout = none → (s.node n).sq.profile.bootTimeoutS ≠ 0 →
      (s.node n).sq.pst = .gated → (s.node n).sq.order = some o → o.src = .slot j →
      (ranOut (s.node n).sq.resetT = true → (s.node n).sq.prefetch ≠ .waiting → o.code = .reset →
        Does (.resetTimerExpiry n) s
          (slotAnswered ((s.booted n).modNode n fun d => { d with sq := d.sq.closed o .complete 0 s.msclk }) j)
          (doneRuns s j .complete o.detail)) ∧
      (ranOut (s.node n).sq.resetT = true → (s.node n).sq.prefetch = .waiting → (s.node n).sq.gateT ≠ none →
        Does (.resetTimerExpiry n) s (s.modNode n fun d => { d with sq := { d.sq with resetT := none } }) []) ∧
      ((s.node n).sq.resetT = none → (s.node n).sq.prefetch = .waiting → ranOut (s.node n).sq.gateT = true → o.code = .powerOn →
        Does (.gateTimerExpiry n) s
          ((s.booted n).modNode n fun d =>
            { d with sq := { d.sq with order := some { o with detail := o.detail ||| detailGateExpired } } }) [])) ∧
  (∀ (s : State) (n : NodeId) (o : PowerOrder) (j : SlotId),
      Operating s → Ample s → (s.node n).sq.pst = .booting → ranOut (s.node n).sq.bootT = true →
      (s.node n).sq.order = some o → o.code = .powerOn → o.src = .slot j →
      Does (.bootTimerExpiry n) s
        (slotAnswered ((nodeEvent (s.moved n .running) n .bootUnconfirmed).modNode n fun d =>
          { d with
            sq := (d.sq.enter .running s.msclk).closed o .complete detailBootUnconfirmed s.msclk,
            lv := d.lv.enterRunning s.msclk }) j)
        (doneRuns s j .complete (o.detail ||| detailBootUnconfirmed)))

/-- R2, R22: the button pulse ends at its timer; the stop timer ends a POWER_OFF by its ESCALATE flag. While the part
runs; the end of the stop timer on an ample shelf (NORMAL, with a budget that covers every node at its greatest
figure, and no head that could be admitted), with the order in progress that of a slot, and with ESCALATE set at a
node with no command at its port, an empty transmit queue and no journal layout. -/
def Obligations.StoppingTimers : Prop :=
  ∀ (s : State) (n : NodeId) (o : PowerOrder) (j : SlotId),
    Operating s → (s.node n).sq.pst = .stopping →
    (ranOut (s.node n).sq.buttonT = true →
      Does (.buttonTimerExpiry n) s (s.modNode n fun d => { d with sq := { d.sq with buttonT := none } }) []) ∧
    (Ample s → QuietNode s n → ranOut (s.node n).sq.stopT = true → (s.node n).sq.order = some o → o.src = .slot j →
      o.flags &&& flagEscalate ≠ 0 →
      Does (.stopTimerExpiry n) s
        (slotAnswered ((s.moved n .off).modNode n fun d =>
          { d.cutPower with
            sq := (d.sq.enter .off s.msclk).closed o .escalated 0 s.msclk, lv := d.lv.change .stopping .off s.msclk }) j)
        (doneRuns s j .escalated o.detail)) ∧
    (Ample s → ranOut (s.node n).sq.stopT = true → (s.node n).sq.order = some o → o.src = .slot j →
      o.flags &&& flagEscalate = 0 →
      Does (.stopTimerExpiry n) s
        (slotAnswered ((s.moved n .running).modNode n fun d =>
          { d with
            sq := (d.sq.enter .running s.msclk).closed o .timeout 0 s.msclk, lv := d.lv.enterRunning s.msclk }) j)
        (doneRuns s j .timeout o.detail))

/-- R27: the NMI timer ends the pulse and completes the NMI. R26, R38: the dwell timer queues the node of a CYCLE; the
order goes on. R13, R39, R42: the admission timer takes a queued node off the queue to OFF, and completes its order
TIMEOUT. While the part runs, on an ample shelf (NORMAL, with a budget that covers every node at its greatest figure,
and no head that could be admitted), with the order in progress that of a slot; the dwell timer while the stagger
interval lasts. -/
def Obligations.NmiDwellAndAdmissionTimers : Prop :=
  (∀ (s : State) (n : NodeId) (o : PowerOrder) (j : SlotId),
      Operating s → Ample s → (s.node n).sq.pst = .booting ∨ (s.node n).sq.pst = .running → ranOut (s.node n).sq.nmiT = true →
      (s.node n).sq.order = some o → o.src = .slot j →
      Does (.nmiTimerExpiry n) s
        (slotAnswered (s.modNode n fun d =>
          { d with sq := { (d.sq.closed o .complete 0 s.msclk) with nmiT := none } }) j)
        (doneRuns s j .complete o.detail)) ∧
  (∀ (s : State) (n : NodeId),
      Operating s → Ample s → s.shelf.staggerPassed = false → (s.node n).sq.pst = .dwell → ranOut (s.node n).sq.dwellT = true →
      Does (.dwellTimerExpiry n) s
        ((s.moved n .queued).modNode n fun d =>
          { d with
            sq := { d.sq.enter .queued s.msclk with
                    admT := startUnlessZero (d.sq.profile.admissionTimeoutS * 1000) } })
        []) ∧
  (∀ (s : State) (n : NodeId) (o : PowerOrder) (j : SlotId),
      Operating s → Ample s → (s.node n).sq.pst = .queued → ranOut (s.node n).sq.admT = true →
      (s.node n).sq.order = some o → o.src = .slot j →
      Does (.admissionTimerExpiry n) s
        (slotAnswered ((s.moved n .off).modNode n fun d =>
          { d with sq := (d.sq.enter .off s.msclk).closed o .timeout 0 s.msclk }) j)
        (doneRuns s j .timeout o.detail))

/-! ### The shelf budget (chapter 2) -/

/-- R33: the effective budget and the admission limit, as they follow from the configuration and the supplies at any
time; a fall in the supply count never raises the budget. -/
def Obligations.EffectiveBudgetAndLimit : Prop :=
  ∀ (h g : Shelf),
    let f := if h.supplies = 2 then h.cfg.f2 else if h.supplies = 1 then h.cfg.f1 else h.cfg.f0
    h.effective = h.cfg.bcfg * f / 100 ∧
    (h.cfg.headroom ≤ h.effective → h.limit = h.effective - h.cfg.headroom) ∧
    (h.effective < h.cfg.headroom → h.limit = 0) ∧
    (g.cfg = h.cfg → h.cfg.f1 ≤ h.cfg.f2 → h.cfg.f0 ≤ h.cfg.f1 → g.supplies ≤ h.supplies → g.effective ≤ h.effective)

/-- R13, R40, R41: when the stagger timer has run out, the head that fits is admitted: it leaves the queue, the
admission is recorded, the stagger timer starts again and the node enters INRUSH. With no node QUEUED only the timer
stops. While the part runs with the shelf NORMAL, at a node that is alone in the queue, with no journal layout and a
CYCLE, or a POWER_ON without PREFETCH, in progress. -/
def Obligations.StaggerTimerAdmitsHead : Prop :=
  ∀ (s : State) (n : NodeId) (o : PowerOrder),
    Operating s → s.shelf.isOver = false → s.total ≤ s.shelf.effective → (∃ t ∈ s.shelf.staggerT, t.duration ≤ t.elapsed) →
    (s.shelf.queue = [] → Does .staggerTimerExpiry s (s.modShelf fun h => { h with staggerT := none }) []) ∧
    (s.shelf.queue = [n] → (s.node n).sq.pst = .queued → (s.node n).jr.layout = none →
      (s.node n).sq.order = some o → o.code = .cycle ∨ o.code = .powerOn ∧ o.flags &&& flagPrefetch = 0 →
      s.total - (s.node n).sq.reservation + (s.node n).sq.profile.inrushW ≤ s.shelf.limit →
      Does .staggerTimerExpiry s
        ((s.modShelf fun h =>
            { h with queue := [], lastAdmission := s.msclk, admitted := true,
                     staggerT := startUnlessZero h.cfg.staggerMs }).modNode n fun d =>
          { d with
            sq := { d.sq.enter .inrush s.msclk with
                    inrushT := some (Timer.start d.sq.profile.inrushMs),
                    pgT := if d.pins.pgood then none else some (Timer.start d.sq.profile.pgTimeoutMs),
                    pgSeen := d.pins.pgood } })
        [])

/-- R32, R35, R36: a change of a supply pin sets SUPPLY_CHANGED and re-determines the shelf state: OVER exactly when
the total reservation exceeds the effective budget of the supplies that are left. Here shedding is off and no node is
QUEUED. While the part runs. -/
def Obligations.SupplyChangeDeterminesShelf : Prop :=
  ∀ (s : State) (p : SupplyPin),
    Operating s → s.shelf.cfg.shedEnable = false → s.shelf.queue = [] →
    let s1 := match p with
      | .a => { s with supplyA := !s.supplyA }
      | .b => { s with supplyB := !s.supplyB }
    let s2 := shelfEvent (s1.modShelf fun h => { h with sampleA := s1.supplyA, sampleB := s1.supplyB }) .supplyChanged
    (s2.total ≤ s2.shelf.effective → s.shelf.isOver = false → Does (.supplyPinChange p) s s2 []) ∧
    (s2.total > s2.shelf.effective → s.shelf.isOver = true → Does (.supplyPinChange p) s s2 []) ∧
    (s2.total > s2.shelf.effective → s.shelf.isOver = false →
      Does (.supplyPinChange p) s
        (shelfEvent (s2.modShelf fun h => { h with isOver := true, overSince := s.msclk }) .overEntered) []) ∧
    (s2.total ≤ s2.shelf.effective → s.shelf.isOver = true →
      Does (.supplyPinChange p) s (shelfEvent (s2.modShelf fun h => { h with isOver := false }) .overLeft) [])

/-- R43, R44, R45: on a shelf that a failing supply takes to OVER, the RUNNING node of the greatest rank is asked to
shut down, with ESCALATE, and the shed is recorded. While the part runs, with no shed in progress and every other node
of a lower rank; the node has no order in progress and no journal layout. The evaluation at the end of the event is
the model's (assumption 11). -/
def Obligations.OverShelfShedsNode : Prop :=
  ∀ (s : State) (n : NodeId),
    Operating s → s.shelf.isOver = false → s.shelf.cfg.shedEnable = true → s.shelf.shed = none → s.supplyA = true →
    (s.node n).sq.pst = .running → (s.node n).sq.order = none → (s.node n).jr.layout = none →
    0 < (s.node n).sq.profile.shedRank →
    (∀ m, m ≠ n → (s.node m).sq.profile.shedRank < (s.node n).sq.profile.shedRank) →
    s.total > s.shelf.cfg.bcfg * s.shelf.cfg.factor (supplyCount false s.supplyB) / 100 →
    ∃ t, exec (.supplyPinChange .a) s = .next t ∧ t.shelf.isOver = true ∧
      t.shelf.shed = some { node := n, rank := (s.node n).sq.profile.shedRank, kind := .powerOff, since := s.msclk } ∧
      (t.node n).sq.pst = .stopping ∧
      (t.node n).sq.order =
        some { code := .powerOff, src := .shed, flags := flagEscalate, since := s.msclk, detail := 0 } ∧
      (t.node n).events = (s.node n).events ||| bitWord NodeEvent.shed.bit ∧
      (∀ m, m ≠ n → t.node m = s.node m) ∧ t.slots = s.slots ∧ t.watch = s.watch ∧ t.frames = s.frames ∧
      Writes s t []

/-! ### Liveness (chapter 3) -/

/-- R54, R55, R56, R57: a window that has run out with the other check off hangs the node: the flag, its time, HUNG,
and the action RESET, counted and issued with source HANG. While the other check is enabled and not reached, a window
that ends is only marked reached; with the other reached and no action, the node is hung and no more. While the part
runs, at a RUNNING node that is not hung; the hang with its action at a node with no order in progress, no command at
its port, an empty transmit queue and no journal layout, below its recovery limit, on an ample shelf (NORMAL, with a
budget that covers every node at its greatest figure, and no head that could be admitted). -/
def Obligations.WindowExpiries : Prop :=
  (∀ (s : State) (n : NodeId),
      Operating s → Ample s → QuietNode s n → (s.node n).sq.pst = .running → (s.node n).sq.order = none →
      (s.node n).lv.hbWindow ≠ 0 → (s.node n).lv.silWindow = 0 → (s.node n).lv.hbReached = false →
      (s.node n).lv.hung = false → (s.node n).lv.action = .reset → (s.node n).lv.recovery < (s.node n).lv.limit →
      (s.node n).lv.hbWindow ≤ (s.node n).lv.hbAge →
      Does (.heartbeatWindowExpiry n) s
        ((nodeEvent (s.moved n .gated) n .hung).modNode n fun d =>
          { d with
            lv := { d.lv with
                    hbReached := false, silReached := false, hung := false, hungSince := s.msclk,
                    recovery := d.lv.recovery + 1,
                    lastHang := some { action := .reset, time := s.msclk, result := .accepted } },
            sq := { d.sq.enter .gated s.msclk with
                    order := some { code := .reset, src := .hang, flags := 0, since := s.msclk, detail := 0 },
                    resetT := some (Timer.start d.sq.profile.resetMs),
                    gateT := if d.sq.prefetch = .waiting then startUnlessZero d.sq.profile.gateTimeoutMs else none },
            port := d.port.resetValues })
        []) ∧
  (∀ (s : State) (n : NodeId),
      Operating s → (s.node n).sq.pst = .running → (s.node n).lv.hung = false →
      (s.node n).lv.hbWindow ≠ 0 → (s.node n).lv.silWindow ≠ 0 →
      ((s.node n).lv.hbReached = false → (s.node n).lv.silReached = false →
        (s.node n).lv.hbWindow ≤ (s.node n).lv.hbAge →
        Does (.heartbeatWindowExpiry n) s
          (s.modNode n fun d => { d with lv := { d.lv with hbReached := true } }) []) ∧
      ((s.node n).lv.hbReached = false → (s.node n).lv.silReached = false →
        (s.node n).lv.silWindow ≤ (s.node n).lv.silAge →
        Does (.silenceWindowExpiry n) s
          (s.modNode n fun d => { d with lv := { d.lv with silReached := true } }) []) ∧
      ((s.node n).lv.hbReached = true → (s.node n).lv.silReached = false → (s.node n).lv.action = .none →
        (s.node n).lv.silWindow ≤ (s.node n).lv.silAge → (s.node n).jr.layout = none →
        Does (.silenceWindowExpiry n) s
          ((nodeEvent s n .hung).modNode n fun d =>
            { d with lv := { d.lv with silReached := true, hung := true, hungSince := s.msclk } }) []))

/-! ### Configuration orders (chapters 2 to 9) -/

/-- R28, R47, R48, R62: an accepted BUDGET_SET, PROFILE_SET or LIVENESS_SET replaces what its parameter block names,
whole, and completes in its event; here the shelf stays NORMAL within the new figures, no node is QUEUED, and the node
of a LIVENESS_SET is not RUNNING. R69, R70, R71: an accepted UART_SET installs the six settings with the divisor and
the error of its rate, and stops the idle flush timer; here the line assembler is empty, so no line ends. While the
part runs and the slot is not ACCEPTED, with parameters in range; the UART_SET with an empty transmit queue. -/
def Obligations.ConfigurationOrdersReplace : Prop :=
  (∀ (s : State) (k : SlotId) (n : NodeId) (c : BudgetCfg) (p : Profile) (l : LivenessSettings),
      Operating s → (s.slot k).st ≠ .accepted → s.shelf.isOver = false → s.shelf.queue = [] →
      (budgetOf (slotParams s k) = some c → s.total ≤ c.bcfg * c.factor s.shelf.supplies / 100 →
        Does (.budgetSet k shelfByte 0) s
          (doneIn (s.modShelf fun h => { h with cfg := c, staggerT := retimeStagger h.staggerT c.staggerMs }) k 0x40
            shelfByte 0)
          (postRuns s k 0x40 shelfByte 0 ++ doneRuns s k .complete 0)) ∧
      (profileOf (slotParams s k) = some p →
        let t := s.modNode n fun d => { d with sq := { d.sq with profile := p } }
        t.total ≤ s.shelf.effective →
        Does (.profileSet k (nodeByte n) 0) s (doneIn t k 0x41 (nodeByte n) 0)
          (postRuns s k 0x41 (nodeByte n) 0 ++ doneRuns s k .complete 0)) ∧
      (livenessOf (slotParams s k) = some l → (s.node n).sq.pst ≠ .running → (s.node n).lv.hung = false →
        Does (.livenessSet k (nodeByte n) 0) s
          (doneIn (s.modNode n fun d =>
            { d with lv := { d.lv with
                             hbWindow := l.hbWindow, silWindow := l.silWindow, action := l.action, limit := l.limit,
                             recovery := min d.lv.recovery l.limit } }) k 0x42 (nodeByte n) 0)
          (postRuns s k 0x42 (nodeByte n) 0 ++ doneRuns s k .complete 0))) ∧
  (∀ (s : State) (k : SlotId) (n : NodeId) (u : UartSettings),
      Operating s → (s.slot k).st ≠ .accepted → (s.node n).ch.txq = [] → uartOf (slotParams s k) = some u →
      (s.node n).jr.asm = .empty →
      let div := (48000000 + 8 * u.baud) / (16 * u.baud)
      let rate := 16 * div * u.baud
      Does (.uartSet k (nodeByte n) 0) s
        (doneIn (s.modNode n fun d =>
          { d with ch := { d.ch with
                           settings := u, divisor := div, idleT := none,
                           errorPpm := ((48000000 - rate) + (rate - 48000000)) * 1000000 / rate } }) k 0x11 (nodeByte n) 0)
        (postRuns s k 0x11 (nodeByte n) 0 ++ doneRuns s k .complete 0))

/-- R28, R47, R62, R70, section 10.6: the parameter blocks of BUDGET_SET, PROFILE_SET, LIVENESS_SET and UART_SET, laid
out as section 10.6 has them, are read back as the settings they were written from, whenever these are in range. -/
def Obligations.ParameterBlocksReadBack : Prop :=
  (∀ c : BudgetCfg, c.bcfg ≤ 20000 → c.headroom ≤ 20000 → c.f2 ≤ 100 → c.f1 ≤ c.f2 → c.f0 ≤ c.f1 → c.staggerMs ≤ 60000 →
    budgetOf (c.block) = some c) ∧
  (∀ p : Profile, p.valid = true → profileOf p.block = some p) ∧
  (∀ l : LivenessSettings, l.hbWindow = 0 ∨ 1000 ≤ l.hbWindow ∧ l.hbWindow ≤ 600000 →
    l.silWindow = 0 ∨ 1000 ≤ l.silWindow ∧ l.silWindow ≤ 3600000 → l.limit ≤ 15 → livenessOf l.block = some l) ∧
  (∀ u : UartSettings, 300 ≤ u.baud → u.baud ≤ 3000000 → u.dataBits = 7 ∨ u.dataBits = 8 → u.stopBits = 1 ∨ u.stopBits = 2 →
    u.idleFlushMs = 0 ∨ 10 ≤ u.idleFlushMs ∧ u.idleFlushMs ≤ 10000 → baudError u.baud ≤ 30000 →
    uartOf u.block = some u)

/-- R162, R163: an order whose code is none of section 9.2 is refused UNKNOWN_ORDER, whatever its target and flags;
the refusal changes nothing but the slot. R160, R170: an order posted to a slot in ACCEPTED, or while STAT.INIT is 1,
is a refused write: the count goes on, saturating, ATTN.REFUSED is set, and nothing else changes. FREE written to such
a slot is refused in the same way; to any other slot it is stored. The orders so refused are the power orders. Orders
as commands with slot, target and flags: assumption 6. -/
def Obligations.RefusedOrdersAndSlots : Prop :=
  (∀ (s : State) (k : SlotId) (code target flags : Byte),
      Operating s → (s.slot k).st ≠ .accepted → code ∉ orderCodes →
      Does (.unknownOrder k code target flags) s (doneIn s k code target flags)
        (postRuns s k code target flags ++ doneRuns s k .unknownOrder 0)) ∧
  (∀ (s : State) (k : SlotId) (p : PowerCode) (target flags : Byte), WaitsSettled s →
      (s.init = true ∨ (s.slot k).st = .accepted →
        Does (p.command k target flags) s (refuseWrite s) [] ∧ Does (.slotFree k) s (refuseWrite s) []) ∧
      (s.init = false → (s.slot k).st ≠ .accepted →
        Does (.slotFree k) s (s.modSlot k fun c => { c with st := .free }) []))

/-- R65, R66: an accepted CAPTURE writes the whole record of its node into its capture slot. While the part runs, with
a slot that is not ACCEPTED and a capture slot in range. The bytes of the header are those of `captureHeader`, with
the free fields of assumption 12. -/
def Obligations.CaptureWritesRecord : Prop :=
  ∀ (s : State) (k : SlotId) (n : NodeId) (slot : Nat),
    Operating s → (s.slot k).st ≠ .accepted → captureOf (slotParams s k) = some slot →
    let lines := captureLines s n
    Does (.capture k (nodeByte n) 0) s (doneIn s k 0x43 (nodeByte n) 0)
      (postRuns s k 0x43 (nodeByte n) 0 ++
        [(captureAddr slot, padTo 4096 (captureHeader s n k.val slot lines ++ lines.flatten))] ++
        doneRuns s k .complete 0)

/-! ### Console channels (chapter 4) -/

/-- R78, R79, R81: an accepted INJECT puts its item at the tail of the transmit queue; at an idle transmitter the item
begins. While the part runs, with PWR_EN asserted, fewer than four items in the queue and parameters in range. -/
def Obligations.InjectQueuesItem : Prop :=
  ∀ (s : State) (k : SlotId) (n : NodeId) (i : TxPayload),
    Operating s → (s.slot k).st ≠ .accepted → (s.node n).sq.pst ≠ .absent → (s.node n).sq.pwrEn = true →
    (s.node n).ch.txq.length < 4 → itemOf (slotParams s k) 64 = some i →
    let u (tx : TxPhase) : State :=
      (acceptedIn s k 0x10 (nodeByte n) 0 (some (.item n))).modNode n fun d =>
        { d with ch := { d.ch with txq := d.ch.txq ++ [{ payload := i, src := .slot k }], tx := tx } }
    ((s.node n).ch.tx ≠ .idle →
      Does (.inject k (nodeByte n) 0) s (u (s.node n).ch.tx) (postRuns s k 0x10 (nodeByte n) 0)) ∧
    ((s.node n).ch.tx = .idle → (s.node n).ch.txq = [] →
      Does (.inject k (nodeByte n) 0) s
        (u (match i with | .string _ => .string | .brk ms => .brk (Timer.start ms))) (postRuns s k 0x10 (nodeByte n) 0))

/-- R81: the item that has been sent whole leaves the queue and completes its order; a break is followed by the guard,
and with the guard's end, or a string's, the next item begins. While the part runs, with the item one of a slot. That
an end with nothing being sent changes nothing is the model's choice (assumption 1). -/
def Obligations.TransmitterGoesOn : Prop :=
  ∀ (s : State) (n : NodeId) (i : TxItem) (rest : List TxItem) (k : SlotId) (b : Timer),
    Operating s →
    let c := (s.node n).ch
    let u (c : Channel) : State := slotAnswered (s.modNode n fun d => { d with ch := c }) k
    (c.tx = .string → c.txq = i :: rest → i.src = .slot k →
      Does (.stringItemSent n) s (u { c with txq := rest, tx := .idle }.beginHead) (doneRuns s k .complete 0)) ∧
    (c.tx = .brk b → b.duration ≤ b.elapsed → c.txq = i :: rest → i.src = .slot k →
      Does (.breakItemEnd n) s (u { c with txq := rest, tx := .guard }) (doneRuns s k .complete 0)) ∧
    (c.tx = .guard → Does (.breakGuardEnd n) s (s.modNode n fun d => { d with ch := { c with tx := .idle }.beginHead }) []) ∧
    (c.tx = .idle →
      Does (.stringItemSent n) s s [] ∧ Does (.breakItemEnd n) s s [] ∧ Does (.breakGuardEnd n) s s [])

/-- R71, R72: the framer: a fall of RXD in IDLE begins a frame in the settings in force, a false start returns it to
IDLE, and RXD high ends MARK_WAIT; elsewhere the edge is only a level. While the part runs. What an edge that the
framer does not await leaves is the model's choice (assumption 10). -/
def Obligations.FramerStates : Prop :=
  ∀ (s : State) (n : NodeId) (f : FrameFormat), Operating s →
    let u (framer : Framer) (rxd : Bool) : State :=
      s.modNode n fun d => { d with ch := { d.ch with framer := framer, rxd := rxd } }
    let c := (s.node n).ch
    (c.framer = .idle → Does (.rxdStartEdge n) s (u (.frame c.settings.format) false) [] ∧
      Does (.rxFalseStart n) s (u .idle true) [] ∧ Does (.rxdMarkReturn n) s (u .idle true) []) ∧
    (c.framer = .markWait → Does (.rxdStartEdge n) s (u .markWait false) [] ∧
      Does (.rxFalseStart n) s (u .markWait true) [] ∧ Does (.rxdMarkReturn n) s (u .idle true) []) ∧
    (c.framer = .frame f → Does (.rxdStartEdge n) s (u (.frame f) false) [] ∧
      Does (.rxFalseStart n) s (u .idle true) [] ∧ Does (.rxdMarkReturn n) s (u (.frame f) true) [])

/-- R72, R73, R74, R77, R53, R87, R109: a byte of text in any frame format, with or without an error, whose line has
room and for which no watch entry matches: the bits are kept as the format cuts them, a low stop bit or a wrong parity
is counted once and marks the line, the byte joins the history and the line, the idle flush timer starts again, at a
RUNNING node the silence age starts again, which with a silence window ends the silence and the hang, and nothing else
changes. The framer waits for the mark after a low stop bit. While the part runs, with a framing_count that does not
exceed 65535, and with the hung flag of a RUNNING node with no silence window as its heartbeat check has it (R55).
That the idle flush timer starts again for the idle_flush_ms in force, though the byte's frame may have begun before a
UART_SET, is the model's choice (assumption 47). The samples as operands are the model's (assumption 10). -/
def Obligations.ByteIsCountedAndAssembled : Prop :=
  ∀ (s : State) (n : NodeId) (b : Byte) (parity stop1 stop2 : Bool) (f : FrameFormat),
    Operating s → (s.node n).ch.framer = .frame f → f.dataBits = 7 ∨ f.dataBits = 8 → f.stopBits = 1 ∨ f.stopBits = 2 →
    let v : Byte := if f.dataBits = 7 then b &&& 0x7F else b
    let ones : Nat := ((List.range 8).filter fun i => v.getLsbD i).length + parity.toNat
    let wrong : Bool := match f.parity with
      | .none => false
      | .even => ones % 2 = 1
      | .odd => ones % 2 = 0
    let error : Bool := wrong || !stop1 || (f.stopBits = 2 && !stop2)
    let high : Bool := if f.stopBits = 2 then stop2 else stop1
    v ≠ 0 → v ≠ 0x0A → v ≠ 0x0D →
    (∀ i, entryMatches (s.watchEntry i) n (appendHistory (s.node n).hist v) = false) →
    (s.node n).jr.asm.blocked = .taking → (s.node n).jr.asm.cr = false → (s.node n).jr.asm.text.length < 111 →
    ((s.node n).sq.pst = .running → (s.node n).lv.silWindow = 0 →
      ((s.node n).lv.hung = true ↔ (s.node n).lv.hbWindow ≠ 0 ∧ (s.node n).lv.hbReached = true)) →
    (s.node n).ch.framing ≤ 65535 →
    Does (.rxDataByte n b parity stop1 stop2) s
      (s.modNode n fun d =>
        { d with
          lv := if d.sq.pst = .running then
              { d.lv with silOrigin := s.msclk, silAge := 0, silReached := false,
                          hung := d.lv.hung && d.lv.silWindow = 0 }
            else d.lv,
          ch := { d.ch with framer := if high then .idle else .markWait, rxd := high, rxBytes := d.ch.rxBytes + 1,
                            framing := if error then min (d.ch.framing + 1) 65535 else d.ch.framing,
                            idleT := startUnlessZero d.ch.settings.idleFlushMs },
          hist := (d.hist ++ [v]).drop (d.hist.length - 23),
          jr := { d.jr with asm := { d.jr.asm with text := d.jr.asm.text ++ [v], framing := d.jr.asm.framing || error } } })
      []

/-! ### The journal (chapter 5) -/

/-- R75, R77, R86, R87, R89, R90: a line is ended by a line feed, by the idle flush timer with PARTIAL, and by a break
with BREAK; in ring mode its record goes to the next pinned slot while the pinned region has room, and to the next
body slot otherwise. A break at a node with no layout is counted and discards the line. While the part runs, with a
line that is not empty, no carriage return held and the assembler not blocked; the line feed in the format 8-N-1 at a
node that is not RUNNING and where no watch entry matches. That the line feed starts the idle flush timer again for
the idle_flush_ms in force, though its frame may have begun before a UART_SET, is the model's choice (assumption 47).
-/
def Obligations.LineEndsWriteRecord : Prop :=
  (∀ (s : State) (n : NodeId) (l : Layout),
      Operating s → (s.node n).jr.layout = some l → l.lossless = false → (s.node n).jr.asm.blocked = .taking →
      (s.node n).jr.asm.cr = false → (s.node n).jr.asm.text ≠ [] →
      let j := (s.node n).jr
      let line (partialEnd brk : Bool) : Line :=
        { boot := (s.node n).sq.boot, time := s.msclk, lost := j.asm.lost, text := j.asm.text,
          flags := { cont := j.asm.contDue, partialEnd := partialEnd, brk := brk, framing := j.asm.framing } }
      let pins : Bool := j.pinnedCount < l.pinned
      let slot := if pins then l.base + j.pinnedCount else l.base + l.pinned + j.bodyCount % l.body
      let runs (partialEnd brk : Bool) := [(0x10000 + slot * 128, lineRecord (nextSeq j.lastSeq) (line partialEnd brk))]
      let gone (d : Node) : Node :=
        { d with jr := { d.jr with
                         lastSeq := nextSeq d.jr.lastSeq, asm := { Assembler.empty with lost := d.jr.drop }, drop := 0,
                         pinnedCount := d.jr.pinnedCount + pins.toNat, bodyCount := d.jr.bodyCount + (!pins).toNat } }
      ((s.node n).ch.framer = .frame { dataBits := 8, parity := .none, stopBits := 1 } → (s.node n).sq.pst ≠ .running →
        (∀ i, entryMatches (s.watchEntry i) n (appendHistory (s.node n).hist 0x0A) = false) →
        Does (.rxDataByte n 0x0A false true true) s
          (s.modNode n fun d =>
            { gone d with
              ch := { d.ch with framer := .idle, rxd := true, rxBytes := d.ch.rxBytes + 1,
                                idleT := startUnlessZero d.ch.settings.idleFlushMs },
              hist := appendHistory d.hist 0x0A })
          (runs false false)) ∧
      ((∃ t ∈ (s.node n).ch.idleT, t.duration ≤ t.elapsed) →
        Does (.idleFlushTimerExpiry n) s (s.modNode n fun d => { gone d with ch := { d.ch with idleT := none } })
          (runs true false)) ∧
      Does (.rxBreak n) s
        (s.modNode n fun d =>
          { gone d with
            ch := { d.ch with framer := .markWait, rxd := false, breaks := bump 65535 d.ch.breaks, idleT := none }, hist := [] })
        (runs false true)) ∧
  (∀ (s : State) (n : NodeId),
      Operating s → (s.node n).jr.layout = none → (s.node n).jr.asm.blocked = .taking → (s.node n).jr.asm.cr = false →
      Does (.rxBreak n) s
        (s.modNode n fun d =>
          { d with
            ch := { d.ch with framer := .markWait, rxd := false, breaks := bump 65535 d.ch.breaks, idleT := none },
            hist := [],
            jr := { d.jr with asm := { Assembler.empty with lost := d.jr.drop }, drop := 0 } })
        [])

/-- R93, R94: an accepted JOURNAL_LAYOUT replaces the node's journal by an empty one with the new layout, or by none,
and empties the receive history. R100, R102, R103: an accepted TAIL_FREEZE copies the newest body records into the
tail, oldest first, records the tail as held and writes a TAIL_FROZEN marker; an accepted TAIL_RELEASE clears
tail_held alone. While the part runs and the slot is not ACCEPTED, with parameters in range; the TAIL_FREEZE in ring
mode with a tail that is not held. -/
def Obligations.LayoutAndTailOrders : Prop :=
  (∀ (s : State) (k : SlotId) (n : NodeId) (l : Option Layout),
      Operating s → (s.slot k).st ≠ .accepted → layoutOf s n (slotParams s k) = some l →
      Does (.journalLayout k (nodeByte n) 0) s
        (doneIn (s.modNode n fun d => { d with jr := { Journal.full with layout := l }, hist := [] }) k 0x12 (nodeByte n) 0)
        (postRuns s k 0x12 (nodeByte n) 0 ++ doneRuns s k .complete 0)) ∧
  (∀ (s : State) (k : SlotId) (n : NodeId) (l : Layout), Operating s → (s.slot k).st ≠ .accepted →
      let j := (s.node n).jr
      let count := min l.tail (min j.bodyCount l.body)
      let records := (List.range count).map fun i => s.mem.readRun (lineAddr (l.bodySlot (j.bodyCount - count + i))) 128
      (j.layout = some l → l.tail ≠ 0 → l.lossless = false → j.tail.held = false →
        Does (.tailFreeze k (nodeByte n) 0) s
          (doneIn (nodeEvent (s.modNode n fun d =>
            { d with jr := { d.jr with
                             tail := { held := true, count := count, reason := .order, time := s.msclk,
                                       firstSeq := firstSeq records },
                             tailMissed := 0, lastSeq := nextSeq d.jr.lastSeq, bodyCount := d.jr.bodyCount + 1 } })
            n .tailFrozen) k 0x13 (nodeByte n) 0)
          (postRuns s k 0x13 (nodeByte n) 0 ++
            [(lineAddr (l.base + l.pinned + l.body), records.flatten),
             (lineAddr (l.bodySlot j.bodyCount),
              markerRecord (nextSeq j.lastSeq) (s.node n).sq.boot s.msclk .tailFrozen count)] ++
            doneRuns s k .complete 0)) ∧
      (j.tail.held = true →
        Does (.tailRelease k (nodeByte n) 0) s
          (doneIn (s.modNode n fun d => { d with jr := { d.jr with tail := { d.jr.tail with held := false } } }) k 0x14
            (nodeByte n) 0)
          (postRuns s k 0x14 (nodeByte n) 0 ++ doneRuns s k .complete 0)))

/-- R103: TAIL_RELEASE is refused INVALID_PARAMETER at the target 0xFF and INCORRECT_STATE where tail_held is clear,
whatever the node's state and layout; accepted it clears tail_held alone and completes COMPLETE in its event. A freeze
request, whatever its reason, that finds tail_held clear copies the body as it then stands and clears tail_missed.
While the part runs, in a slot that is not ACCEPTED and holds the order's code and target with no flags; the freeze
with a body that is not empty (R93). -/
def Obligations.TailReleaseClearsTailHeld : Prop :=
  ∀ (s : State) (k : SlotId) (n : NodeId) (l : Layout) (r : TailReason), Operating s → (s.slot k).st ≠ .accepted →
    let j := (s.node n).jr
    let answer (t : Byte) (u : State) (x : Result) : Prop :=
      s.mem.readRun (slotAddr k + 4) 4 = [0x14, t, 0, 0] →
        Does (.tailRelease k t 0) s (doneIn u k 0x14 t 0) ((slotAddr k + 0x14, leWord s.msclk) :: doneRuns s k x 0)
    answer shelfByte s .invalidParameter ∧
    (j.tail.held = false → answer (nodeByte n) s .incorrectState) ∧
    (j.tail.held = true →
      answer (nodeByte n) (s.modNode n fun d => { d with jr := { d.jr with tail := { d.jr.tail with held := false } } })
        .complete) ∧
    (j.tail.held = false → j.layout = some l → l.tail ≠ 0 → 0 < l.body →
      let u := freezeTail s n r
      let count := min l.tail (min j.bodyCount l.body)
      (u.node n).jr.tail.held = true ∧ (u.node n).jr.tail.count = count ∧ (u.node n).jr.tail.reason = r ∧
        (u.node n).jr.tail.time = s.msclk ∧ (u.node n).jr.tailMissed = 0 ∧
        ∀ i, i < count →
          u.mem.readRun (lineAddr (l.base + l.pinned + l.body + i)) 128 =
            s.mem.readRun (lineAddr (l.bodySlot (j.bodyCount - count + i))) 128)

/-- R86, section 10.6: the 128 bytes of a line record and of a marker record. -/
def Obligations.LineRecordLayout : Prop :=
  ∀ (seq time : Word) (boot : Half) (l : Line) (kind : MarkerKind) (arg : Nat), l.text.length ≤ 112 → arg < 4294967296 →
    let r := lineRecord seq l
    let m := markerRecord seq boot time kind arg
    let bit (b : Bool) (i : Nat) : Byte := if b then bitByte i else 0
    r.length = 128 ∧ wordAt r 0x00 = seq ∧ halfAt r 0x04 = l.boot.toNat ∧ byteAt r 0x06 = l.text.length ∧
    r.getD 0x07 0 = bit l.flags.cont 0 ||| bit l.flags.partialEnd 1 ||| bit l.flags.brk 2 ||| bit l.flags.framing 3 ∧
    wordAt r 0x08 = l.time ∧ halfAt r 0x0C = l.lost % 65536 ∧ halfAt r 0x0E = 0 ∧
    r.drop 0x10 = l.text ++ List.replicate (112 - l.text.length) 0 ∧
    m.length = 128 ∧ wordAt m 0x00 = seq ∧ halfAt m 0x04 = boot.toNat ∧ byteAt m 0x06 = 0 ∧ m.getD 0x07 0 = bitByte 4 ∧
    wordAt m 0x08 = time ∧ halfAt m 0x0C = 0 ∧ byteAt m 0x0E = kind.code ∧ longAt m 0x10 = arg ∧
    m.drop 0x14 = List.replicate 108 0

/-- R90, R92, R98: a marker is the next body record, written whatever the room outside lossless mode and while there
is room in it; in lossless mode with no room it is dropped and counted, and with no layout it is discarded. -/
def Obligations.MarkersAreBodyRecords : Prop :=
  ∀ (s : State) (n : NodeId) (kind : MarkerKind) (arg : Nat) (l : Layout),
    let j := (s.node n).jr
    (j.layout = none → marker s n kind arg = s) ∧
    (j.layout = some l → l.lossless = false ∨ l.body - (j.bodyCount - j.fence) ≠ 0 →
      let t := marker s n kind arg
      Becomes t (s.modNode n fun d =>
        { d with jr := { d.jr with lastSeq := nextSeq d.jr.lastSeq, bodyCount := d.jr.bodyCount + 1 } }) ∧
      Writes s t [(lineAddr (l.base + l.pinned + j.bodyCount % l.body),
        markerRecord (nextSeq j.lastSeq) (s.node n).sq.boot s.msclk kind arg)]) ∧
    (j.layout = some l → l.lossless = true → l.body - (j.bodyCount - j.fence) = 0 →
      marker s n kind arg =
        nodeEvent (s.modNode n fun d => { d with jr := { d.jr with markersLost := bump 255 d.jr.markersLost } }) n
          .markerLost)

/-- R95, R99: the fence event takes the written fence, clamped to body_count and never moved back. Where the journal
waits for nothing it does nothing more; in lossless mode a pending line that finds room is written. While the part
runs; the pending line at an assembler that is not blocked. -/
def Obligations.FenceEvent : Prop :=
  ∀ (s : State) (n : NodeId) (hi : Word) (l : Layout) (line : Line), Operating s →
    let j := (s.node n).jr
    let w := hi.toNat * 0x100000000 + (s.node n).fenceLo.toNat
    let fence := if w > j.bodyCount then j.bodyCount else if w < j.fence then j.fence else w
    (j.pendingLine = none →
      Does (.fenceHiWrite n hi) s (s.modNode n fun d => { d with fenceHi := hi, jr := { d.jr with fence := fence } }) []) ∧
    (j.layout = some l → l.lossless = true → j.pendingLine = some line → j.asm.blocked = .taking →
      l.body - (j.bodyCount - fence) ≠ 0 →
      Does (.fenceHiWrite n hi) s
        (s.modNode n fun d =>
          { d with
            fenceHi := hi,
            jr := { d.jr with fence := fence, pendingLine := none, lastSeq := nextSeq d.jr.lastSeq,
                              bodyCount := d.jr.bodyCount + 1 } })
        [(lineAddr (l.bodySlot j.bodyCount), lineRecord (nextSeq j.lastSeq) line)])

/-! ### The watch table (chapter 6) -/

/-- R107, R121, R122, R123: an accepted WATCH_SET sets its entry, valid, with fresh pairs armed for its node set;
WATCH_CLEAR makes it invalid and disarms its pairs; WATCH_REARM arms the pair of the node named. Nothing else of the
table changes. While the part runs and the slot is not ACCEPTED, with parameters in range. -/
def Obligations.WatchOrders : Prop :=
  ∀ (s : State) (k : SlotId) (i : WatchId) (f : WatchFields) (n : NodeId), Operating s → (s.slot k).st ≠ .accepted →
    let runs (code target : Byte) := postRuns s k code target 0 ++ doneRuns s k .complete 0
    (watchSetOf (slotParams s k) = some (i, f) →
      Does (.watchSet k shelfByte 0) s
        (doneIn (s.modWatch i fun _ =>
          { valid := true, fields := some f,
            pairs := Vector.ofFn fun n => { Pair.full with armed := f.nodeSet.getLsbD n.val } }) k 0x20 shelfByte 0)
        (runs 0x20 shelfByte)) ∧
    (indexOf (byteAt (slotParams s k) 0) = some i →
      Does (.watchClear k shelfByte 0) s
        (doneIn (s.modWatch i fun e =>
          { e with valid := false, pairs := vmap e.pairs fun p => { p with armed := false } }) k 0x21 shelfByte 0)
        (runs 0x21 shelfByte)) ∧
    (indexOf (byteAt (slotParams s k) 0) = some i → (s.watchEntry i).fields = some f → (s.watchEntry i).valid = true →
      f.nodeSet.getLsbD n.val = true →
      Does (.watchRearm k (nodeByte n) 0) s
        (doneIn (s.modWatch i fun e => { e with pairs := vmod e.pairs n fun p => { p with armed := true } }) k 0x22
          (nodeByte n) 0)
        (runs 0x22 (nodeByte n)))

/-- R112: the expiry of a holdoff timer stops it and changes nothing else; a match within its holdoff is counted as
suppressed and does no more. R111, R113, R115: otherwise a pair with a NOTE action fires, WATCH_FIRED is set and the
result is COMPLETE. R115, R116, R117, R119, R120: what a pair that fires does with each other action, and the result
it records: a MARK by the room of the journal, an INJECT by the checks of R80, an ORDER by those of R7 and R37 with
source the watch index, or its capture record, a BOOT_DONE by the state, a FREEZE_TAIL by the tail. R118: the end of a
power order that an ORDER action issued, here an NMI by its timer on an ample shelf (NORMAL, with a budget that covers
every node at its greatest figure, and no head that could be admitted), replaces a recorded ACCEPTED and no other
result, and sets AUTO_ORDER. R111: the matching entries of a byte are taken in ascending index, each on the state that
the one before it left, and the byte then goes on to the line assembler; that its sign of life comes after these, and
that it restarts the idle flush timer for the idle_flush_ms in force though its frame may have begun under other
settings, are the model's choices (assumptions 36 and 47). -/
def Obligations.PairsFireAndHoldOff : Prop :=
  (∀ (s : State) (i : WatchId) (n : NodeId), Operating s → ranOut (s.pair i n).holdoffT = true →
      Does (.holdoffTimerExpiry i n) s
        (s.modWatch i fun e => { e with pairs := vmod e.pairs n fun p => { p with holdoffT := none } }) []) ∧
  (∀ (s : State) (i : WatchId) (n : NodeId) (f : WatchFields),
      (s.watchEntry i).fields = some f →
      let pair (g : Pair → Pair) (s : State) : State := s.modWatch i fun e => { e with pairs := vmod e.pairs n g }
      ((s.pair i n).holdoffT ≠ none →
        takeMatch n s i = pair (fun p => { p with suppressed := bump 65535 p.suppressed }) s) ∧
      (f.action = .note → (s.pair i n).holdoffT = none →
        takeMatch n s i = nodeEvent (pair (fun p =>
          { p with fireCount := bump 65535 p.fireCount, fired := true, lastFire := s.msclk,
                   holdoffT := startUnlessZero f.holdoffMs, armed := p.armed && f.arm = .every,
                   result := .ended .complete }) s) n .watchFired)) ∧
  (∀ (s : State) (i : WatchId) (n : NodeId) (f : WatchFields) (p : TxPayload) (c : PowerCode) (flags : Byte) (k : Nat)
      (l : Layout) (o : PowerOrder),
      (s.watchEntry i).fields = some f → (s.pair i n).holdoffT = none →
      let d := s.node n
      let pair (g : Pair → Pair) (s : State) : State := s.modWatch i fun e => { e with pairs := vmod e.pairs n g }
      let fired : State := nodeEvent (pair (fun p =>
        { p with fireCount := bump 65535 p.fireCount, fired := true, lastFire := s.msclk,
                 holdoffT := startUnlessZero f.holdoffMs, armed := p.armed && f.arm = .every }) s) n .watchFired
      let answers (u : State) (r : LastResult) : Prop := takeMatch n s i = pair (fun p => { p with result := r }) u
      let flag (u : State) (e : NodeEvent) : Prop := (u.node n).events.getLsbD e.bit = true
      (f.action = .mark →
        (d.jr.layout = none → answers fired (.ended .invalidParameter)) ∧
        (d.jr.layout = some l →
          answers (marker fired n .watch i.val)
            (.ended (if l.lossless = false ∨ l.body - (d.jr.bodyCount - d.jr.fence) ≠ 0 then .complete else .busy)))) ∧
      (f.action = .inject p →
        if d.sq.pst = .absent then answers fired (.ended .nodeAbsent)
        else if 4 ≤ d.ch.txq.length then answers fired (.ended .busy)
        else if d.sq.pwrEn = false then answers fired (.ended .incorrectState)
        else answers
          (fired.modNode n fun d =>
            { d with ch := Channel.beginHead { d.ch with txq := d.ch.txq ++ [{ payload := p, src := .watch i }] } })
          (.ended .complete)) ∧
      (f.action = .power c flags → c ∈ [PowerCode.powerOff, .forceOff, .reset, .cycle, .nmi] → flags &&& ~~~c.ownFlags = 0 →
        if d.sq.pst = .absent then answers fired (.ended .nodeAbsent)
        else if c ∈ [PowerCode.powerOff, .nmi] ∧ d.sq.order ≠ none then answers fired (.ended .busy)
        else if d.sq.pst ∉ c.states then answers fired (.ended .incorrectState)
        else if c = .cycle ∧ d.sq.profile.inrushW > s.shelf.limit then answers fired (.ended .noBudget)
        else
          let u := actPower fired n c (.watch i) flags
          answers u (if c = .forceOff then .ended .complete else .accepted) ∧
          (u.node n).lv.recovery = d.lv.recovery ∧
          (if c = .forceOff then
            (u.node n).sq.pst = .off ∧ (u.node n).sq.order = none ∧
              (u.node n).sq.last = { code := 0x03, result := 0, detail := 0, time := s.msclk } ∧ flag u .autoOrder
          else
            (u.node n).sq.order = some { code := c, src := .watch i, flags := flags, since := s.msclk, detail := 0 } ∧
              (u.node n).sq.pst =
                (if c = .powerOff then .stopping else if c = .reset then .gated else if c = .cycle then .dwell
                else d.sq.pst))) ∧
      (f.action = .capture k →
        let lines := captureLines fired n
        answers
          (nodeEvent (fired.store (captureAddr k)
            (padTo 4096 (captureHeader fired n (i.val + 0x20) k lines ++ lines.flatten))) n .autoOrder)
          (.ended .complete)) ∧
      (f.action = .bootDone →
        (d.sq.pst ≠ .booting → answers fired (.ended .incorrectState)) ∧
        (d.sq.pst = .booting →
          let u := bootDone fired n
          answers u (.ended .complete) ∧ (u.node n).sq.pst = .running ∧ (u.node n).sq.bootT = none ∧ flag u .bootDone ∧
          (d.sq.order = some o →
            if o.code = .powerOn ∨ o.code = .cycle then
              (u.node n).sq.order = none ∧
                (u.node n).sq.last = { code := byteOf o.code.code, result := 0, detail := o.detail, time := s.msclk }
            else (u.node n).sq.order = some o))) ∧
      (f.action = .freezeTail →
        (d.jr.layout = none → answers fired (.ended .invalidParameter)) ∧
        (d.jr.layout = some l →
          if l.tail = 0 then answers fired (.ended .invalidParameter)
          else if d.jr.tail.held = true then
            answers (fired.modNode n fun d => { d with jr := { d.jr with tailMissed := bump 255 d.jr.tailMissed } })
              (.ended .incorrectState)
          else
            let u := freezeTail fired n .watch
            answers u (.ended .complete) ∧ (u.node n).jr.tail.held = true ∧ (u.node n).jr.tail.reason = .watch ∧
              (u.node n).jr.tail.count = min l.tail (min d.jr.bodyCount l.body) ∧ (u.node n).jr.tailMissed = 0 ∧
              flag u .tailFrozen))) ∧
  (∀ (s : State) (i : WatchId) (n : NodeId) (o : PowerOrder),
      Operating s → Ample s → (s.node n).sq.pst = .booting ∨ (s.node n).sq.pst = .running → ranOut (s.node n).sq.nmiT = true →
      (s.node n).sq.order = some o → o.src = .watch i →
      Does (.nmiTimerExpiry n) s
        (nodeEvent
          ((s.modWatch i fun e => { e with pairs := vmod e.pairs n fun p =>
            { p with result := if p.result = .accepted then .ended .complete else p.result } }).modNode n fun d =>
              { d with sq := { (d.sq.closed o .complete 0 s.msclk) with nmiT := none } }) n .autoOrder)
        []) ∧
  (∀ (s : State) (n : NodeId) (b : Byte),
      Operating s → (s.node n).ch.framer = .frame { dataBits := 8, parity := .none, stopBits := 1 } →
      let hist := ((s.node n).hist ++ [b]).drop ((s.node n).hist.length - 23)
      let matching : List WatchId := (List.finRange 32).filter fun i => entryMatches (s.watchEntry i) n hist
      let counted : State := s.modNode n fun d =>
        { d with ch := { d.ch with framer := .idle, rxd := true, rxBytes := d.ch.rxBytes + 1 }, hist := hist }
      matching.Pairwise (· < ·) ∧
      exec (.rxDataByte n b false true true) s =
        .next (finish s ((byteSignOfLife (assembleByte (matching.foldl (takeMatch n) counted) n b false) n).modNode n fun d =>
          { d with ch := { d.ch with idleT := startUnlessZero d.ch.settings.idleFlushMs } })))

/-! ### Attachments and frames (chapter 8) -/

/-- R141, R142: an accepted ATTACH installs the eight figures, counts the attachment and sets CHANGED. R143, R144,
R145: a DETACH, plain or forced, at an attached node that owns no frame and has no command in progress completes at
once: the attachment is NONE and CHANGED is set. While the part runs and the slot is not ACCEPTED, at a node with no
journal layout; the DETACH with nothing waiting in the Frame Controller. That the slot and the discarded count of a
DETACH are kept once it has completed, and by an ATTACH, is the model's choice (assumption 31). -/
def Obligations.AttachAndDetach : Prop :=
  (∀ (s : State) (k : SlotId) (n : NodeId) (g : AttachFigures),
      Operating s → (s.slot k).st ≠ .accepted → (s.node n).att.st = .none → (s.node n).jr.layout = none →
      attachOf (slotParams s k) = some g →
      Does (.attach k (nodeByte n) 0) s
        (doneIn (s.modNode n fun d =>
          { d with
            att := { d.att with st := .attached, fig := g, attachNumber := d.att.attachNumber + 1 },
            port := { d.port with changed := true } }) k 0x30 (nodeByte n) 0)
        (postRuns s k 0x30 (nodeByte n) 0 ++ doneRuns s k .complete 0)) ∧
  (∀ (s : State) (k : SlotId) (n : NodeId) (flags : Byte),
      Operating s → (s.slot k).st ≠ .accepted → flags = 0 ∨ flags = flagForce → (s.node n).att.st = .attached →
      s.ownedCount n = 0 → (s.node n).att.dirty = [] → (s.node n).port.cmd = none → s.waits = [] →
      (s.node n).sq.prefetch ≠ .waiting → (s.node n).jr.layout = none →
      Does (.detach k (nodeByte n) flags) s
        (doneIn (s.modNode n fun d =>
          { d with
            att := { d.att with st := .none, detach := none, detachSlot := k.val, discarded := 0 },
            port := { d.port with changed := true } }) k 0x31 (nodeByte n) flags)
        (postRuns s k 0x31 (nodeByte n) flags ++ doneRuns s k .complete 0))

/-- R155, R156, R157: the four returns of a posted entry whose frame belongs to an attached node with no command in
progress, with nothing waiting: a fetch FILLED or a flush FLUSHED leaves its frame CLEAN at the tail of the clean
list; a fetch FAILED frees its frame and is counted; a flush FAILED puts its frame back on the dirty list and is
counted. The entry becomes FREE. A return of a FREE entry is a refused write. While the part runs, with a frame that
is not expired and a node that is not in GATED; the flush FAILED within the dirty limit of a node that is not
detaching. How a return that the entry's state does not allow is taken follows assumption 7. -/
def Obligations.TransferReturns : Prop :=
  ∀ (s : State) (e : EntryId) (f : FrameId) (n : NodeId) (t : Nat),
    Operating s → (s.entry e).frame = f → (s.frame f).own = some (n, t) → (s.frame f).expired = false →
    (s.node n).att.st = .attached → (s.node n).port.cmd = none → (s.node n).sq.prefetch ≠ .waiting →
    (s.node n).sq.pst ≠ .gated → s.waitList = [] → s.waits = [] →
    let freed : State := s.modEntry e fun x => { x with st := .free }
    let failure (k : TransferKind) : Option Failure := some { kind := k, tag := t, result := (s.entry e).result }
    let cleaned : State :=
      { freed.modFrame f fun x => { x with st := .clean, ageT := none } with clean := s.clean.filter (· ≠ f) ++ [f] }
    ((s.entry e).st = .fetchPosted → Does (.fetchFilled e) s cleaned []) ∧
    ((s.entry e).st = .flushPosted → Does (.flushFlushed e) s cleaned []) ∧
    ((s.entry e).st = .fetchPosted →
      Does (.fetchFailed e) s
        ({ (freed.modFrame f fun x => { x with st := .free, own := none, expired := false, ageT := none }) with
            clean := s.clean.filter (· ≠ f) }.modNode n fun d =>
          { d with att := { d.att with dirty := d.att.dirty.filter (· ≠ f),
                                       fetchFailures := bump 65535 d.att.fetchFailures, lastFailure := failure .fetch } })
        []) ∧
    ((s.entry e).st = .flushPosted → (s.node n).att.detach = none →
      ((s.node n).att.dirty.filter (· ≠ f) ++ [f]).length < (s.node n).att.fig.dirtyLimit →
      Does (.flushFailed e) s
        ({ (freed.modFrame f fun x =>
              { x with st := .dirty, dirtySince := s.msclk,
                       ageT := some (Timer.start (s.node n).att.fig.flushAgeMs) }) with
            clean := s.clean.filter (· ≠ f) }.modNode n fun d =>
          { d with att := { d.att with dirty := d.att.dirty.filter (· ≠ f) ++ [f],
                                       flushFailures := bump 65535 d.att.flushFailures, lastFailure := failure .flush } })
        []) ∧
    ((s.entry e).st = .free →
      Does (.fetchFilled e) s (refuseWrite s) [] ∧ Does (.fetchFailed e) s (refuseWrite s) [] ∧
      Does (.flushFlushed e) s (refuseWrite s) [] ∧ Does (.flushFailed e) s (refuseWrite s) [])

/-- R153, R158: the wait timer ends a READ with TIMEOUT and marks the FILLING frame it waits for as expired; the age
of a DIRTY frame posts its flush. While the part runs, with nothing waiting in the Frame Controller; the flush at a
node with no command in progress. The expiry as a command is the model's (assumption 3). -/
def Obligations.MediaTimers : Prop :=
  ∀ (s : State) (n : NodeId) (c : PortCmd) (f : FrameId) (e : EntryId) (t : Nat), Operating s →
    (ranOut (s.node n).port.waitT = true → (s.node n).port.cmd = some c → c.kind = .read → s.counterFrame n c = some f →
      (s.frame f).st = .filling → s.waits = [] → s.ownedIn n .assembling = 0 →
      Does (.waitTimerExpiry n) s
        ((s.modFrame f fun x => { x with expired := true }).modNode n fun d =>
          { d with port := { d.port with
                             cmd := none, lastCode := 0x01, lastEnd := .timeout, lastTime := s.msclk, waitT := none,
                             done := true, error := true, err := .timeout } })
        []) ∧
    (ranOut (s.frame f).ageT = true → (s.frame f).st = .dirty → (s.frame f).own = some (n, t) → (s.node n).port.cmd = none →
      s.waitList = [] → s.freeEntry = some e →
      Does (.flushAgeExpiry f) s
        (setAttn (((s.modEntry e fun x =>
          { x with st := .flushPosted, kind := some .flush, node := n.val, first := t * 8,
                   count := min 8 ((s.node n).att.fig.capacity - t * 8), offset := 0x50000 + f.val * 4096, time := s.msclk,
                   frame := f }).modNode n fun d =>
            { d with att := { d.att with dirty := d.att.dirty.filter (· ≠ f) } }).modFrame f fun x =>
              { x with st := .flushing, ageT := none }) .transferPosted)
        [])

/-! ### The Media Port (chapter 7) -/

/-- R126, R129: the checks of a command that the node writes while BUSY is clear, in their order; the first that fails
refuses it, with DONE, ERROR and its end code, and records it as the last ended command. A command that passes every
check is accepted; only a FLUSH can end in the same event. A command written while BUSY is set is ignored. R127: the
last ended code has 8 bits; that it shows the low 8 bits of a refused word above 0xFF is the model's choice
(assumption 40). While the part runs. -/
def Obligations.PortChecksInOrder : Prop :=
  ∀ (s : State) (n : NodeId) (w : Word), Operating s →
    let d := s.node n
    let refused (e : EndCode) : Prop :=
      Does (portCommand n w) s
        (s.modNode n fun d =>
          { d with port := { d.port with
                             cmdWord := w, done := true, error := true, err := e, cmd := none, waitT := none,
                             lastCode := w.truncate 8, lastEnd := e, lastTime := s.msclk,
                             changed := d.port.changed && e ≠ .changed } })
        []
    (s.busy n = true → Does (portCommand n w) s s []) ∧
    (s.busy n = false →
      if w ∉ [1, 2, 3, 4] then refused .badCommand
      else if d.att.st ≠ .attached then refused .noMedia
      else if d.port.changed = true then refused .changed
      else if (w = 1 ∨ w = 2) ∧ (d.port.count.toNat < 1 ∨ 64 < d.port.count.toNat) then refused .badCount
      else if (w = 1 ∨ w = 2) ∧ d.port.block.toNat + d.port.count.toNat > d.att.fig.capacity then refused .outOfRange
      else if w = 2 ∧ d.att.fig.readOnly = true then refused .writeProtected
      else ∃ t, exec (portCommand n w) s = .next t ∧ (t.node n).port.cmdWord = w ∧ (t.node n).port.error = false ∧
        (t.node n).port.err = .none ∧ ((t.node n).port.cmd = none → w = 4 ∧ (t.node n).port.done = true) ∧
        ((t.node n).port.cmd ≠ none → (t.node n).port.done = false))

/-- R130, R136, R139: an accepted IDENTIFY is in progress with its counter at 0; an accepted FLUSH at a node with
nothing to store ends at once with NONE. R131, R148, R150, R153, R155: an accepted READ or WRITE of a window that lies
in one frame: with the frame resident and CLEAN the command is in progress with DATA set; a READ of a frame that is
not resident takes the first FREE frame, posts its fetch in the first FREE entry and waits with its timer. While the
part runs, at an attached node whose port is idle with CHANGED clear; the fetch within the quota, into a FREE frame
that has no owner (R146). -/
def Obligations.PortCommandsAccepted : Prop :=
  (∀ (s : State) (n : NodeId),
      Operating s → s.busy n = false → (s.node n).att.st = .attached → (s.node n).port.changed = false →
      Does (.identify n) s
        (s.modNode n fun d =>
          { d with port := { d.port with
                             cmdWord := 3, done := false, error := false, err := .none,
                             cmd := some { kind := .identify, first := d.port.block.toNat, count := d.port.count.toNat,
                                           counter := 0, moved := false } } })
        [] ∧
      ((s.node n).att.dirty = [] → s.ownedIn n .dirty = 0 → s.ownedIn n .assembling = 0 → s.ownedIn n .flushing = 0 →
        s.waits = [] →
        Does (.flush n) s
          (s.modNode n fun d =>
            { d with port := { d.port with
                               cmdWord := 4, done := true, error := false, err := .none, cmd := none, lastCode := 4,
                               lastEnd := .none, lastTime := s.msclk, waitT := none } })
          [])) ∧
  (∀ (s : State) (n : NodeId) (f : FrameId) (e : EntryId),
      Operating s → s.busy n = false → (s.node n).att.st = .attached → (s.node n).port.changed = false →
      1 ≤ (s.node n).port.count.toNat → (s.node n).port.count.toNat ≤ 64 →
      (s.node n).port.block.toNat + (s.node n).port.count.toNat ≤ (s.node n).att.fig.capacity →
      (s.node n).port.block.toNat % 8 + (s.node n).port.count.toNat ≤ 8 →
      let t := (s.node n).port.block.toNat / 8
      let taken (w : Word) (k : MediaCmd) (p : Port) : Port :=
        { p with cmdWord := w, done := false, error := false, err := .none,
                 cmd := some { kind := k, first := p.block.toNat, count := p.count.toNat, counter := p.block.toNat * 512,
                               moved := false } }
      let resident (w : Word) (k : MediaCmd) : State := s.modNode n fun d => { d with port := taken w k d.port }
      (s.owned n t = some f → (s.frame f).st = .clean →
        Does (.read n) s (resident 1 .read) [] ∧ (resident 1 .read).data n = true ∧
        ((s.node n).att.fig.readOnly = false →
          Does (.write n) s (resident 2 .write) [] ∧ (resident 2 .write).data n = true)) ∧
      (s.owned n t = none → s.ownedCount n < (s.node n).att.fig.quota →
        (allFrames.find? fun g => (s.frame g).st = .free) = some f → (s.frame f).own = none → s.freeEntry = some e →
        Does (.read n) s
          (setAttn ({ (s.modFrame f fun x =>
                { x with st := .filling, own := some (n, t), expired := false, ageT := none }).modEntry e fun x =>
                { x with st := .fetchPosted, kind := some .fetch, node := n.val, first := t * 8,
                         count := min 8 ((s.node n).att.fig.capacity - t * 8), offset := 0x50000 + f.val * 4096,
                         time := s.msclk, frame := f }
              with clean := s.clean.filter (· ≠ f) }.modNode n fun d =>
            { d with port := { taken 1 .read d.port with waitT := some (Timer.start d.att.fig.fetchTimeoutMs) } })
            .transferPosted)
          []))

/-- R132, R133: an access to MP_DATA in the direction of the command, while DATA is set, moves the word at the counter
and advances the counter by 4; any other access changes nothing, and a read of it returns 0xFFFFFFFF. The end of an
IDENTIFY's block ends it. R134, R147, R150, R151, R153, R155, R158: a READ moves a CLEAN frame to the tail of the
clean list at its first word; a WRITE makes a CLEAN frame DIRTY, and an ASSEMBLING one at the last word of its covered
part, and a dirty list that then holds dirty_limit frames posts the flush of its oldest; in the next frame DATA
follows its state, a READ posts the fetch of one that is not resident and waits; at the end of the window the command
ends with NONE. The counter of a READ and of a WRITE that moves into another frame is a multiple of 4 (R130). While
the part runs; the step into a frame and the end of the window with nothing waiting in the Frame Controller, the fetch
within the quota, into a FREE frame that has no owner (R146), and the flush of a frame that has none requested. The
word that a read returns is held in the model's `busData` (assumption 26). -/
def Obligations.DataPortAccesses : Prop :=
  (∀ (s : State) (n : NodeId) (c : PortCmd) (f : FrameId) (w : Word), WaitsSettled s →
      let p := (s.node n).port
      let u (g : Port → Port) : State := s.modNode n fun d => { d with port := g d.port }
      ((∀ c ∈ p.cmd, (c.kind ≠ .read ∧ c.kind ≠ .identify) ∨ s.data n = false) →
        Does (.mpDataRead n) s (u fun p => { p with busData := 0xFFFFFFFF }) []) ∧
      ((∀ c ∈ p.cmd, c.kind ≠ .write ∨ s.data n = false) → Does (.mpDataWrite n w) s s []) ∧
      (p.cmd = some c → c.kind = .identify → p.rst = false → c.counter < 508 →
        Does (.mpDataRead n) s
          (u fun p => { p with busData := wordAt (s.node n).att.identity c.counter,
                               cmd := some { c with counter := c.counter + 4 } }) []) ∧
      (p.cmd = some c → c.kind = .identify → p.rst = false → c.counter = 508 → s.waits = [] → s.ownedIn n .assembling = 0 →
        Does (.mpDataRead n) s
          (u fun p => { p with busData := wordAt (s.node n).att.identity 508, cmd := none, done := true, error := false,
                               err := .none, lastCode := 3, lastEnd := .none, lastTime := s.msclk, waitT := none }) []) ∧
      (p.cmd = some c → c.kind = .read → s.data n = true → s.counterFrame n c = some f → (s.frame f).st = .dirty →
        c.counter % 4 = 0 → (c.counter + 4) % 4096 ≠ 0 → c.counter + 4 < c.stop →
        Does (.mpDataRead n) s
          (u fun p => { p with busData := wordAt (s.mem.readRun (0x50000 + f.val * 4096 + c.counter % 4096) 4) 0,
                               cmd := some { c with counter := c.counter + 4 } }) []) ∧
      (s.init = false → p.cmd = some c → c.kind = .write → s.data n = true → s.counterFrame n c = some f → (s.frame f).st = .dirty →
        (c.counter + 4) % 4096 ≠ 0 → c.counter % 4096 < 4093 → c.counter + 4 < c.stop →
        Does (.mpDataWrite n w) s (u fun p => { p with cmd := some { c with counter := c.counter + 4 } })
          [(0x50000 + f.val * 4096 + c.counter % 4096, leWord w)])) ∧
  (∀ (s : State) (n : NodeId) (c : PortCmd) (f g : FrameId) (e : EntryId) (w : Word) (t : Nat),
      Operating s → (s.node n).port.cmd = some c → s.data n = true → s.counterFrame n c = some f → c.counter % 4 = 0 →
      let addr := 0x50000 + f.val * 4096 + c.counter % 4096
      let read : Word := wordAt (s.mem.readRun addr 4) 0
      let st := (s.frame f).st
      let att := (s.node n).att
      let next : PortCmd := { c with counter := c.counter + 4 }
      let port (h : Port → Port) (u : State) : State := u.modNode n fun d => { d with port := h d.port }
      let entered (admits : Bool) (p : Port) : Port :=
        { p with cmd := some { next with moved := false },
                 waitT := if admits then none else some (Timer.start att.fig.fetchTimeoutMs) }
      let ended (code : Byte) (p : Port) : Port :=
        { p with cmd := none, done := true, error := false, err := .none, lastCode := code, lastEnd := .none,
                 lastTime := s.msclk, waitT := none }
      let touched : State :=
        if st = .clean ∧ c.moved = false then { s with clean := s.clean.filter (· ≠ f) ++ [f] } else s
      let dirtied : State :=
        { s.modFrame f fun x =>
            { x with st := .dirty, dirtySince := s.msclk, ageT := some (Timer.start att.fig.flushAgeMs) }
          with clean := s.clean.filter (· ≠ f) }.modNode n fun d =>
            { d with att := { d.att with dirty := d.att.dirty.filter (· ≠ f) ++ [f] } }
      let joins : Prop := st = .clean ∨ st = .assembling ∧ c.counter + 4 = min c.stop ((c.counter / 4096 + 1) * 4096)
      let wrote : State := if joins then dirtied else s
      let full : Prop := att.fig.dirtyLimit ≤ (att.dirty.filter (· ≠ f) ++ [f]).length
      let others : Prop := ∀ h, h ≠ f → (s.frame h).st = .assembling → (s.frame h).ownedBy n = false
      ((c.counter + 4) % 4096 ≠ 0 → c.counter + 4 < c.stop →
        (c.kind = .read →
          Does (.mpDataRead n) s
            (port (fun p => { p with busData := read, cmd := some { next with moved := c.moved || st = .clean } }) touched)
            []) ∧
        (c.kind = .write → ¬(joins ∧ full) →
          Does (.mpDataWrite n w) s (port (fun p => { p with cmd := some next }) wrote) [(addr, leWord w)]) ∧
        (c.kind = .write → joins → full → att.dirty.head? = some g → g ≠ f → s.flushWaits g = false →
          (s.frame g).st = .dirty → (s.frame g).own = some (n, t) → s.freeEntry = some e →
          Does (.mpDataWrite n w) s
            (setAttn ((((port (fun p => { p with cmd := some next }) wrote).modEntry e fun x =>
              { x with st := .flushPosted, kind := some .flush, node := n.val, first := t * 8,
                       count := min 8 (att.fig.capacity - t * 8), offset := 0x50000 + g.val * 4096, time := s.msclk,
                       frame := g }).modNode n fun d =>
                { d with att := { d.att with dirty := d.att.dirty.filter (· ≠ g) } }).modFrame g fun x =>
                  { x with st := .flushing, ageT := none }) .transferPosted)
            [(addr, leWord w)])) ∧
      ((c.counter + 4) % 4096 = 0 → c.counter + 4 < c.stop → s.waits = [] →
        s.owned n (c.counter / 4096 + 1) = some g → (s.frame g).st ≠ .free →
        (c.kind = .read →
          Does (.mpDataRead n) s
            (port (fun p => { entered ((s.frame g).st ∈ [FrameState.clean, .dirty, .flushing]) p with busData := read })
              touched) []) ∧
        (c.kind = .write → ¬(joins ∧ full) →
          Does (.mpDataWrite n w) s (port (entered ((s.frame g).st ∈ [FrameState.clean, .dirty, .assembling])) wrote)
            [(addr, leWord w)])) ∧
      ((c.counter + 4) % 4096 = 0 → c.counter + 4 < c.stop → s.waits = [] → c.kind = .read →
        s.owned n (c.counter / 4096 + 1) = none → s.ownedCount n < att.fig.quota →
        (allFrames.find? fun h => (s.frame h).st = .free) = some g → (s.frame g).own = none → s.freeEntry = some e →
        Does (.mpDataRead n) s
          (setAttn (port (fun p => { entered false p with busData := read })
            { (touched.modFrame g fun x =>
                { x with st := .filling, own := some (n, c.counter / 4096 + 1), expired := false, ageT := none }).modEntry e
                fun x =>
                { x with st := .fetchPosted, kind := some .fetch, node := n.val, first := (c.counter / 4096 + 1) * 8,
                         count := min 8 (att.fig.capacity - (c.counter / 4096 + 1) * 8), offset := 0x50000 + g.val * 4096,
                         time := s.msclk, frame := g }
              with clean := touched.clean.filter (· ≠ g) }) .transferPosted)
          []) ∧
      (c.counter + 4 = c.stop → s.waits = [] → others →
        (c.kind = .read →
          Does (.mpDataRead n) s (port (fun p => { ended 0x01 p with busData := read }) touched) []) ∧
        (c.kind = .write → ¬(joins ∧ full) →
          Does (.mpDataWrite n w) s (port (ended 0x02) wrote) [(addr, leWord w)])))

/-- R135, R137: a read of MP_STAT returns the flags and clears DONE; RST written 1 resets a port with no command in
progress and holds it; RST written 0 returns a held port to its reset values; a write of MP_CTL that leaves RST as it
is stores IE. While the part runs. The word that a read returns is held in the model's `busData` (assumption 26). -/
def Obligations.PortStatusAndReset : Prop :=
  ∀ (s : State) (n : NodeId) (ie : Bool), Operating s → s.hold = false →
    let u (g : Port → Port) : State := s.modNode n fun d => { d with port := g d.port }
    Does (.mpStatRead n) s (u fun p => { p with busData := BitVec.ofNat 32 (s.mpStat n), done := false }) [] ∧
    Does (.interruptEnableWrite n ie) s (u fun p => { p with ie := ie }) [] ∧
    ((s.node n).port.rst = true →
      Does (.portResetSet n ie) s (u fun p => { p with ie := ie }) [] ∧
      ((s.node n).port.cmd = none → Does (.portResetRelease n ie) s (u Port.resetValues) [])) ∧
    ((s.node n).port.rst = false →
      Does (.portResetRelease n ie) s (u fun p => { p with ie := ie }) [] ∧
      ((s.node n).port.cmd = none →
        Does (.portResetSet n ie) s (u fun p => { p with rst := true, done := false, error := false, ie := ie }) []))

/-! ### Exchange memory, registers, resets (chapter 10) -/

/-- R170, section 10.1: a write stores its enabled bytes in the scratch of bank 0 and of bank 15 and in a slot that is
not ACCEPTED, and is refused, changing nothing but the count and ATTN.REFUSED, in the journal, in the records, and in
bank 0 while STAT.INIT is 1. A partial write of a watched word (event_ack, fence_hi, the state word of a slot or of an
entry) is refused. In the node records event_ack, fence_lo and fence_hi alone are the management processor's, and in a
transfer entry the state and, while it is posted, the result; a write of any other word of theirs is refused. fence_lo
and the result word of a posted entry take partial writes. R146: a write to a frame is stored exactly while the frame
is FILLING with its fetch posted. R171: a whole-word write of a watched word is that word's event: FREE or POSTED at a
slot that is not ACCEPTED (R160, R161), event_ack (R173), fence_hi (R95), the returns of a posted entry (R156, R157);
any other value at a slot or an entry is refused. While the wait timers stand as the last event left them, with at
least one byte lane; the frames and the events while the part runs, and POSTED where the slot's header word holds the
order's code, target and flags. Byte lanes as an operand are the model's (assumption 7). -/
def Obligations.ExchangeWrites : Prop :=
  (∀ (s : State) (word : BitVec 18) (lanes : BitVec 4) (data : Word) (k : SlotId) (n : NodeId) (e : EntryId) (o : Nat),
      WaitsSettled s → lanes ≠ 0 →
      let a := word.toNat * 4
      let stored : Prop := Does (.exchangeWrite word lanes data) s s [(a, mergeLanes lanes (s.mem.readRun a 4) data)]
      let refused : Prop := Does (.exchangeWrite word lanes data) s (refuseWrite s) []
      (0xB0000 ≤ a → stored) ∧
      (s.init = false → 0x4800 ≤ a → a < 0x10000 → stored) ∧
      (s.init = false → (s.slot k).st ≠ .accepted → slotAddr k + 4 ≤ a → a < slotAddr k + 0x100 → stored) ∧
      (s.init = false → (s.slot k).st = .accepted → slotAddr k ≤ a → a < slotAddr k + 0x100 → refused) ∧
      (0x10000 ≤ a → a < 0x50000 → refused) ∧
      (s.init = true → a < 0xB0000 → refused) ∧
      (s.init = false → a < 0x100 → a ≠ 0x08 ∨ lanes ≠ 0xF → refused) ∧
      (s.init = false → 0x500 ≤ a → a < 0x800 → refused) ∧
      (s.init = false → 0x3000 ≤ a → a < 0x4800 → refused) ∧
      (s.init = false → a = 0x100 + n.val * 0x100 + o → o < 0x100 → o ∉ [0x08, 0x0C, 0x10] → refused) ∧
      (s.init = false → a = 0x800 + e.val * 0x40 + o → o < 0x40 →
        o ∉ [0x00, 0x18] ∨ o = 0x18 ∧ (s.entry e).st = .free → refused) ∧
      (s.init = false → lanes ≠ 0xF →
        a ∈ [0x100 + n.val * 0x100 + 0x08, 0x100 + n.val * 0x100 + 0x10, slotAddr k, 0x800 + e.val * 0x40] → refused) ∧
      (s.init = false → a = 0x100 + n.val * 0x100 + 0x0C →
        Does (.exchangeWrite word lanes data) s
          (s.modNode n fun d => { d with fenceLo := wordAt (mergeLanes lanes (leWord d.fenceLo) data) 0 }) []) ∧
      (s.init = false → a = 0x800 + e.val * 0x40 + 0x18 → (s.entry e).st ≠ .free →
        Does (.exchangeWrite word lanes data) s
          (s.modEntry e fun x => { x with result := wordAt (mergeLanes lanes (leWord x.result) data) 0 }) [])) ∧
  (∀ (s : State) (word : BitVec 18) (lanes : BitVec 4) (data : Word) (k : SlotId) (n : NodeId) (e : EntryId) (f : FrameId)
      (o : Nat) (code target flags : Byte), Operating s → lanes ≠ 0 →
      let a := word.toNat * 4
      let refused : Prop := Does (.exchangeWrite word lanes data) s (refuseWrite s) []
      let event (i : Instr) : Prop := exec (.exchangeWrite word lanes data) s = exec i s
      let fillable : Prop :=
        (s.frame f).st = .filling ∧ ∃ e : EntryId, (s.entry e).st = .fetchPosted ∧ (s.entry e).frame = f
      (a = 0x50000 + f.val * 4096 + o → o < 4096 →
        (fillable → Does (.exchangeWrite word lanes data) s s [(a, mergeLanes lanes (s.mem.readRun a 4) data)]) ∧
        (¬fillable → refused)) ∧
      (lanes = 0xF →
        (a = slotAddr k → (s.slot k).st ≠ .accepted →
          (data = 0 → event (.slotFree k)) ∧
          (data = 1 → MemInv s → s.mem.readRun (slotAddr k + 4) 4 = [code, target, flags, 0] →
            event (orderPosted k code target flags)) ∧
          (data ≠ 0 → data ≠ 1 → refused)) ∧
        (a = 0x100 + n.val * 0x100 + 0x08 → event (.eventAckWrite (.node n) data)) ∧
        (a = 0x100 + n.val * 0x100 + 0x10 → event (.fenceHiWrite n data)) ∧
        (a = 0x800 + e.val * 0x40 →
          match (s.entry e).st with
          | .free => refused
          | .fetchPosted =>
            if data = 3 then event (.fetchFilled e) else if data = 5 then event (.fetchFailed e) else refused
          | .flushPosted =>
            if data = 4 then event (.flushFlushed e) else if data = 5 then event (.flushFailed e) else refused)))

/-- R171, R173: a whole-word write of event_ack stores it and takes the flags it names out of the set; while STAT.INIT
is 1 it is refused (R170). A whole-word write of the word through the exchange window is the same event. R174, R175,
R176, R177: ATTN clears the bits written 1; ATTN_EN stores the enables, with a pulse for a set bit newly enabled in
pulse mode; CTRL with RESET as it is stores IMODE and IEN, except during the initialization of a full reset; a pulse
ends. While the wait timers stand as the last event left them. That CTRL is ignored while an initialization of a full
reset lasts is DEDUCED (assumption 25). The pulse as a state that an own command ends is the model's (assumption 23).
-/
def Obligations.AttentionRegisters : Prop :=
  (∀ (s : State) (n : NodeId) (data : Word), WaitsSettled s →
      (s.init = true → ∀ r, Does (.eventAckWrite r data) s (refuseWrite s) []) ∧
      (s.init = false →
        Does (.eventAckWrite .shelf data) s
          (s.modShelf fun h => { h with ack := data, events := h.events &&& ~~~data }) [] ∧
        Does (.eventAckWrite (.node n) data) s
          (s.modNode n fun d => { d with ack := data, events := d.events &&& ~~~data }) [] ∧
        exec (.exchangeWrite 2 0xF data) s = exec (.eventAckWrite .shelf data) s)) ∧
  (∀ (s : State) (data : Word) (imode ien : Bool),
      let b : Byte := data.truncate 8
      Does (.attnWrite data) s { s with attn := s.attn &&& ~~~b } [] ∧
      Does (.attnEnWrite data) s
        { s with attnEn := b, pulse := s.pulse || (s.ien && s.imode && decide (s.attn &&& b &&& ~~~s.attnEn ≠ 0)) } [] ∧
      (s.init = false ∨ s.hold = true →
        Does (.interruptControlWrite imode ien) s { s with imode := imode, ien := ien } []) ∧
      (s.init = true → s.hold = false → Does (.interruptControlWrite imode ien) s s []) ∧
      Does .attnIntPulseEnd s { s with pulse := false } [])

/-- R126, R174: a write to a register is the command that its offset names; a write to a read-only register, or to a
management offset above 0x14, is ignored; MP_BLOCK and MP_COUNT take any value while BUSY is clear. An offset of a
node service bus at which the port has no register stops the model (assumption 27). While the part runs. -/
def Obligations.RegisterWrites : Prop :=
  ∀ (s : State) (n : NodeId) (offset data : Word), Operating s →
    exec (.registerWrite .management 0x0C data) s = exec (.attnWrite data) s ∧
    exec (.registerWrite .management 0x10 data) s = exec (.attnEnWrite data) s ∧
    (s.hold = false →
      exec (.registerWrite .management 0x04 data) s =
        exec (if data.getLsbD 0 then .softResetHold (data.getLsbD 1) (data.getLsbD 2)
          else .interruptControlWrite (data.getLsbD 1) (data.getLsbD 2)) s) ∧
    (offset ∉ [0x04, 0x0C, 0x10] → Does (.registerWrite .management offset data) s s []) ∧
    exec (.registerWrite (.node n) 0x00 data) s = exec (portCommand n data) s ∧
    exec (.registerWrite (.node n) 0x10 data) s = exec (.mpDataWrite n data) s ∧
    exec (.registerWrite (.node n) 0x18 data) s =
      exec (if data.getLsbD 1 then .portResetSet n (data.getLsbD 0) else .portResetRelease n (data.getLsbD 0)) s ∧
    (offset ∈ [0x04, 0x14, 0x1C] → Does (.registerWrite (.node n) offset data) s s []) ∧
    (s.busy n = false →
      Does (.registerWrite (.node n) 0x08 data) s (s.modNode n fun d => { d with port := { d.port with block := data } }) [] ∧
      Does (.registerWrite (.node n) 0x0C data) s (s.modNode n fun d => { d with port := { d.port with count := data } }) []) ∧
    (s.busy n = true → offset ∈ [0x08, 0x0C] → Does (.registerWrite (.node n) offset data) s s []) ∧
    (offset ∉ [0x00, 0x04, 0x08, 0x0C, 0x10, 0x14, 0x18, 0x1C] →
      exec (.registerWrite (.node n) offset data) s = .fault .noPortRegister)

/-- R177, R30, R50, R64, R84, R105, R125, R140: what the start of a soft reset hold leaves: every timer stopped, every
order in progress and every transmit item gone without a result, QUEUED nodes in OFF, the outputs as they were; the
slots, the frames, the layouts and the RAM are kept. That MP_ERR is kept where no command was in progress, and that a
guard ends with the rest, are the model's choices (assumptions 24 and 17). -/
def Obligations.SoftResetHoldBegins : Prop :=
  ∀ (s : State) (imode ien : Bool), s.hold = false → s.init = false →
    ∃ t, exec (.softResetHold imode ien) s = .next t ∧ Writes s t [] ∧
      t.init = true ∧ t.hold = true ∧ t.imode = imode ∧ t.ien = ien ∧ t.msclk = s.msclk ∧ t.attn = s.attn ∧
      t.attnEn = s.attnEn ∧ t.slots = s.slots ∧ t.clean = s.clean ∧ t.entries = s.entries ∧
      (∀ f, t.frame f = { s.frame f with ageT := none }) ∧
      t.shelf = { s.shelf with queue := [], staggerT := none, shed := none } ∧
      (∀ n, let d := s.node n
        let e := t.node n
        e.sq.pst = (if d.sq.pst = .queued then .off else d.sq.pst) ∧ e.sq.pwrEn = d.sq.pwrEn ∧ e.sq.rst = d.sq.rst ∧
        e.sq.btn = false ∧ e.sq.nmi = false ∧ e.sq.order = none ∧ e.sq.boot = d.sq.boot ∧ e.sq.profile = d.sq.profile ∧
        e.sq.inrushT = none ∧ e.sq.pgT = none ∧ e.sq.resetT = none ∧ e.sq.gateT = none ∧ e.sq.bootT = none ∧
        e.sq.buttonT = none ∧ e.sq.stopT = none ∧ e.sq.nmiT = none ∧ e.sq.dwellT = none ∧ e.sq.admT = none ∧
        e.lv.hung = false ∧ e.ch.txq = [] ∧ e.ch.tx = .idle ∧ e.ch.idleT = none ∧ e.ch.framer = .markWait ∧
        e.ch.settings = d.ch.settings ∧ e.jr = { d.jr with asm := .empty, drop := 0, pendingLine := none } ∧
        e.port.cmd = none ∧ e.port.done = false ∧ e.port.error = false ∧ e.port.waitT = none ∧
        (d.port.cmd ≠ none → e.port.err = .reset ∧ e.port.lastEnd = .reset) ∧
        (d.port.cmd = none → e.port.err = d.port.err ∧ e.port.lastEnd = d.port.lastEnd) ∧
        e.att = d.att ∧ e.hist = [] ∧ e.events = d.events ∧ e.pins = d.pins) ∧
      (∀ i n, (t.pair i n).holdoffT = none ∧ (t.pair i n).armed = (s.pair i n).armed) ∧
      (∀ i, (t.watchEntry i).fields = (s.watchEntry i).fields ∧ (t.watchEntry i).valid = (s.watchEntry i).valid)

/-- R30, R50, R76, R125, R140, R159, R169, R177: the release of a hold whose nodes are quiet, on a shelf that covers
them: every node settles by its pins, every framer starts in MARK_WAIT, which a high RXD ends at once (R72), every
slot still ACCEPTED goes to DONE with ABORTED and the time of the release, every frame, entry and attachment is
dropped and the frames with data not known to be stored are counted, the pairs of a valid EVERY entry are armed for
its nodes and the others kept, and STAT.INIT becomes 0. ATTN_EN, the refused-write count, the event_ack and fence
words, and every other byte of the slots are kept. The release in one step is the model's choice (assumption 15). -/
def Obligations.SoftResetReleases : Prop :=
  ∀ (s : State) (imode ien : Bool),
    s.hold = true → s.init = true → s.shelf.isOver = false → s.shelf.queue = [] →
    (∀ n, QuietNode s n ∧ (s.node n).sq.order = none ∧ (s.node n).sq.pst ≠ .queued ∧ (s.node n).port.waitT = none) →
    (allNodes.map fun n => (s.node n).sq.profile.peak).sum ≤
      s.shelf.cfg.bcfg * s.shelf.cfg.factor (supplyCount s.supplyA s.supplyB) / 100 →
    ∃ t, exec (.softResetRelease imode ien) s = .next t ∧
      t.init = false ∧ t.hold = false ∧ t.imode = imode ∧ t.ien = ien ∧ t.msclk = s.msclk ∧ t.attnEn = s.attnEn ∧
      t.refused = s.refused ∧ t.shelf.ack = s.shelf.ack ∧
      t.shelf.queue = [] ∧ t.shelf.isOver = false ∧ t.shelf.admitted = false ∧ t.shelf.cfg = s.shelf.cfg ∧
      t.shelf.sampleA = s.supplyA ∧ t.shelf.sampleB = s.supplyB ∧
      (∀ n, let d := s.node n
        let e := t.node n
        e.sq.pst = (if d.pins.pres = false then .absent
          else if d.sq.pwrEn = true ∧ d.pins.pgood = true then .running else .off) ∧
        e.sq.boot = d.sq.boot ∧ e.sq.profile = d.sq.profile ∧ e.sq.faultReason = .none ∧ e.sq.prefetch = .none ∧
        e.lv.recovery = 0 ∧ e.jr = d.jr ∧ e.att = { d.att with st := .none, detach := none, dirty := [] } ∧
        e.ch.framer = (if d.ch.rxd then .idle else .markWait) ∧ e.port.rst = false ∧ e.port.err = .none ∧
        e.port.changed = false ∧ e.pins = d.pins ∧ e.ack = d.ack ∧ e.fenceLo = d.fenceLo ∧ e.fenceHi = d.fenceHi ∧
        (e.events = if (d.sq.pst = .absent) = (e.sq.pst = .absent) then d.events
          else d.events ||| bitWord NodeEvent.presenceChanged.bit)) ∧
      t.attn.getLsbD 0 = decide (∃ k, (s.slot k).st = .accepted) ∧ t.attn.getLsbD 1 = false ∧
      (∀ n : NodeId, t.attn.getLsbD (2 + n.val) = decide ((t.node n).events ≠ 0)) ∧
      t.attn.getLsbD 6 = decide (t.shelf.events ≠ 0) ∧ t.attn.getLsbD 7 = false ∧
      (∀ f, (t.frame f).st = .free ∧ (t.frame f).own = none) ∧ (∀ e, t.entry e = .full) ∧ t.clean = [] ∧
      t.waitList = [] ∧ t.waits = [] ∧
      t.shelf.dirtyLost = (s.frames.toList.countP fun f => f.st = .dirty || f.st = .flushing) ∧
      (∀ i, (t.watchEntry i).valid = (s.watchEntry i).valid ∧ (t.watchEntry i).fields = (s.watchEntry i).fields) ∧
      (∀ i n, t.pair i n =
        { s.pair i n with
          armed := (s.pair i n).armed || match (s.watchEntry i).fields with
            | some f => (s.watchEntry i).valid && decide (f.arm = .every) && f.nodeSet.getLsbD n.val
            | none => false }) ∧
      (∀ k, t.slot k = if (s.slot k).st = .accepted then { s.slot k with st := .done, binding := none } else s.slot k) ∧
      (∀ k x, x < 0x100 →
        t.mem.read (slotAddr k + x) =
          if (s.slot k).st = .accepted ∧ 0x0C ≤ x ∧ x < 0x14 then (le32 Result.aborted.code ++ leWord 0).getD (x - 0x0C) 0
          else if (s.slot k).st = .accepted ∧ 0x18 ≤ x ∧ x < 0x1C then (leWord s.msclk).getD (x - 0x18) 0
          else s.mem.read (slotAddr k + x)) ∧
      (∀ x, x < 0x1000 ∨ 0x3000 ≤ x → t.mem.read x = s.mem.read x)

/-- R29, R49, R64, R84, R104, R124, R140, R159, R168, R176: what a full reset leaves, whatever the state before:
STAT.INIT 1, the registers at 0, every block at its reset state, the slots and the journal cleared, the rest of the
RAM and the input levels kept; and initialization ends with STAT.INIT 0. That the command keeps the input levels, and
that the end of an initialization that does not last is no event, are the model's choices (assumptions 1 and 16). -/
def Obligations.FullResetAndInitialization : Prop :=
  ∀ (s : State),
    let cleared (t : State) : Prop :=
      (∀ x, t.mem.read x = if x < 0x4800 ∨ 0x10000 ≤ x ∧ x < 0x50000 then 0 else s.mem.read x) ∧
      t.msclk = 0 ∧ t.hold = false ∧ t.imode = false ∧ t.ien = false ∧
      t.shelf = .full s.supplyA s.supplyB ∧ t.clean = [] ∧ t.waitList = [] ∧ t.waits = [] ∧
      (∀ n, let d := t.node n
        d.sq = .full (s.node n).pins.pres ∧ d.lv = .full ∧ d.jr = .full ∧ d.port = .full ∧ d.att = .full ∧ d.hist = [] ∧
        d.events = 0 ∧ d.ack = 0 ∧ d.fenceLo = 0 ∧ d.fenceHi = 0 ∧ d.pins = (s.node n).pins ∧
        d.ch.settings = .default ∧ d.ch.txq = [] ∧ d.ch.rxBytes = 0 ∧ d.ch.framing = 0 ∧ d.ch.breaks = 0 ∧
        d.ch.divisor = 26 ∧ d.ch.errorPpm = 1602) ∧
      (∀ k, t.slot k = .full) ∧ (∀ i, t.watchEntry i = .full) ∧ (∀ f, t.frame f = .full) ∧ (∀ e, t.entry e = .full)
    (∃ t, exec .fullReset s = .next t ∧ cleared t ∧ t.init = true ∧ t.attn = 0 ∧ t.attnEn = 0 ∧ t.refused = 0) ∧
    (s.init = true → s.hold = false →
      ∃ t, exec .initializationEnd s = .next t ∧ cleared t ∧ t.init = false ∧ t.refused = s.refused) ∧
    (s.init = false ∨ s.hold = true → exec .initializationEnd s = .next s)

/-- R51, R68, R127, R172: a deferred showing writes the fields of a node record that lag behind, in a span of their
own: the count goes on by 2; where no field lags, nothing changes. The update count of a watch reflection and of the
shelf record goes on by 2 in exactly the events that change the record, the resets apart. R4, R173: so does that of a
node record while the part runs, which then shows every field as it stands; a change of the flags, of event_ack, of
fence_hi, of an input level that has an effect in the state of the node, or, while the node is hung, of its deferred
liveness fields counts as one. Which events change a record, and that a change undone within its event is none, follow
assumption 8. -/
def Obligations.RecordsFollowChanges : Prop :=
  (∀ (s : State) (n : NodeId), s.init = false ∨ s.hold = true →
      ∃ t, exec (.deferredShowing n) s = .next t ∧ Becomes t s ∧ Writes s t [] ∧
        t.records.shelf = s.records.shelf ∧ t.records.watch = s.records.watch ∧
        (∀ m, m ≠ n → t.record m = s.record m) ∧
        t.record n =
          if staleShown (s.record n).shown (s.node n).shown = true then
            { count := (s.record n).count + 2, shown := (s.node n).shown, staleT := none }
          else s.record n) ∧
  (∀ (c : Instr) (s t : State), exec c s = .next t → c ≠ .fullReset → c ≠ .initializationEnd →
      (∀ i, t.records.watch.get i =
        if watchBody (t.watchEntry i) ≠ watchBody (s.watchEntry i) then s.records.watch.get i + 2
        else s.records.watch.get i) ∧
      t.records.shelf =
        (if shelfBody t ≠ shelfBody s ∨ t.shelf.events ≠ s.shelf.events ∨ t.shelf.ack ≠ s.shelf.ack then
          s.records.shelf + 2
        else s.records.shelf) ∧
      (s.init = false → ∀ n, c ≠ .deferredShowing n →
        let d := s.node n
        let e := t.node n
        let inputs (p : Pins) : List Bool :=
          [p.pgood && d.sq.pst.powered, p.slpOff && d.sq.pst.released, p.pres, p.hbeat && decide (d.sq.pst ≠ .absent)]
        if nodeBody t n (s.record n).shown ≠ nodeBody s n (s.record n).shown ∨
            identityExtension e.att ≠ identityExtension d.att ∨ e.events ≠ d.events ∨ e.ack ≠ d.ack ∨
            e.fenceHi ≠ d.fenceHi ∨ inputs e.pins ≠ inputs d.pins ∨
            d.lv.hung = true ∧
              (e.lv.edges ≠ d.lv.edges ∨ e.lv.hbOrigin ≠ d.lv.hbOrigin ∨ e.lv.silOrigin ≠ d.lv.silOrigin) then
          t.record n = { count := (s.record n).count + 2, shown := e.shown, staleT := none }
        else (t.record n).count = (s.record n).count ∧ (t.record n).shown = (s.record n).shown))

/-! ### The step and its invariants -/

/-- The queue of commands: the step takes the command at the front and runs it on the state with the queue's rest. On
an empty queue one millisecond passes (assumption 2): MSCLK goes on, a running timer counts one, and the expiries that
are due join the queue (R5), that of a stop timer among them exactly when its duration has elapsed. -/
def Obligations.StepRunsFrontCommand : Prop :=
  (∀ (c : Instr) (s : State), step { s with pending := c :: s.pending } = exec c s) ∧
  (∀ (s : State) (n : NodeId) (t : Timer), s.pending = [] → s.init = false →
    ∃ u, step s = .next u ∧ u.msclk = s.msclk + 1 ∧ u.pending = expiries s ∧ Writes s u [] ∧ u.slots = s.slots ∧ u.entries = s.entries ∧
      ((s.node n).sq.stopT = some t → (u.node n).sq.stopT = some { t with elapsed := min (t.elapsed + 1) t.duration }) ∧
      ((s.node n).sq.stopT = some t → (.stopTimerExpiry n ∈ u.pending ↔ t.elapsed + 1 = t.duration)))

/-- R170: every step keeps the canonical form of the RAM, so that equal memories are equal data. -/
def Obligations.StepKeepsMemory : Prop :=
  ∀ s t : State, MemInv s → step s = .next t → MemInv t

/-- R38: the admission queue holds exactly the nodes in QUEUED, each once, after every step as before it. -/
def Obligations.StepKeepsQueue : Prop :=
  ∀ s t : State, QueueInv s → step s = .next t → QueueInv t

/-- R78, R82: a transmit queue never holds more than four items, and none while PWR_EN is deasserted. R59, R109, R172:
a recovery_count never exceeds its limit, a receive history never holds more than 24 bytes, and no update count is odd
between events. -/
def Obligations.StepKeepsLimits : Prop :=
  (∀ s t : State, TxInv s → step s = .next t → TxInv t) ∧
  (∀ s t : State, step s = .next t →
      (RecoveryInv s → RecoveryInv t) ∧ (HistoryInv s → HistoryInv t) ∧ (CountsEven s → CountsEven t))

/-- R90, R95, R96: the effective fence never passes body_count, and in lossless mode the records not yet consumed
never exceed the body. -/
def Obligations.StepKeepsJournal : Prop :=
  ∀ s t : State, JournalInv s → step s = .next t → JournalInv t

/-- R146: the frame table never holds two frames with the same node and tag. -/
def Obligations.StepKeepsFrameTags : Prop :=
  ∀ s t : State, FramesUnique s → step s = .next t → FramesUnique t

/-- R35: while the part runs the shelf is OVER exactly when the total reservation exceeds the effective budget. The
evaluation at the end of the event is the model's (assumption 11). -/
def Obligations.StepKeepsShelfState : Prop :=
  ∀ s t : State, ShelfInv s → step s = .next t → ShelfInv t

/-- R153: while the part runs a command's wait timer runs exactly while DATA is clear for the frame at its counter.
R137, R140: a port that RST or a hold keeps has no command in progress. -/
def Obligations.StepKeepsPorts : Prop :=
  ∀ s t : State, step s = .next t → (WaitInv s → WaitInv t) ∧ (PortInv s → PortInv t)

/-- The invariants hold right after reset. -/
def Obligations.ResetMeetsInvariants : Prop :=
  MemInv .reset ∧ QueueInv .reset ∧ TxInv .reset ∧ RecoveryInv .reset ∧ HistoryInv .reset ∧ CountsEven .reset ∧
    JournalInv .reset ∧ FramesUnique .reset ∧ ShelfInv .reset ∧ WaitInv .reset ∧ PortInv .reset

/-! ### Orders in progress that end early, and the capture record (chapters 1 and 3) -/

/-- R9, R23, R25: a FORCE_OFF or a CYCLE supersedes the order in progress, whose slot goes to DONE with SUPERSEDED,
and then acts. R10: a fall of PRES ends the order in progress ABORTED with REMOVED. R19: a fall of PGOOD that takes
the node to FAULT ends it FAULTED with PGOOD_LOST. R20: a fall of PGOOD while SLP_OFF is high turns the node off, and
ends an order other than POWER_OFF ABORTED with NODE_OFF. While the part runs, with the order in progress that of a
slot, at a node with no command at its port, an empty transmit queue and no journal layout, on an ample shelf (NORMAL,
with a budget that covers every node at its greatest figure, and no head that could be admitted); the new order posted
to another slot, and the CYCLE within an admission limit that covers inrush_w. -/
def Obligations.OrdersInProgressEnd : Prop :=
  ∀ (s : State) (k j : SlotId) (n : NodeId) (o : PowerOrder),
    Operating s → Ample s → QuietNode s n → (s.node n).sq.order = some o → o.src = .slot j →
    let d := s.node n
    ((s.slot k).st ≠ .accepted → j ≠ k → d.sq.pst ≠ .absent → d.sq.pst ≠ .off →
      Does (.forceOff k (nodeByte n) 0) s
        (doneIn (slotAnswered ((s.moved n .off).modNode n fun d =>
          { d.cutPower with
            sq := { d.sq.enter .off s.msclk with
                    order := none, last := { code := 0x03, result := 0, detail := 0, time := s.msclk } },
            lv := { d.lv.change d.sq.pst .off s.msclk with recovery := 0 } }) j) k 0x03 (nodeByte n) 0)
        (postRuns s k 0x03 (nodeByte n) 0 ++ doneRuns s j .superseded o.detail ++ doneRuns s k .complete 0)) ∧
    ((s.slot k).st ≠ .accepted → j ≠ k → d.sq.pst ∈ [PState.inrush, .gated, .booting, .running, .stopping, .fault] →
      d.sq.profile.inrushW ≤ s.shelf.limit →
      Does (.cycle k (nodeByte n) 0) s
        ((acceptedIn (slotAnswered (s.moved n .dwell) j) k 0x06 (nodeByte n) 0 (some (.power n))).modNode n fun d =>
          { d.cutPower with
            sq := { (d.sq.closed o .superseded 0 s.msclk).enter .dwell s.msclk with
                    order := some { code := .cycle, src := .slot k, flags := 0, since := s.msclk, detail := 0 },
                    dwellT := some (Timer.start d.sq.profile.offDwellMs) },
            lv := { d.lv.change d.sq.pst .dwell s.msclk with recovery := 0 },
            port := d.port.resetValues })
        (postRuns s k 0x06 (nodeByte n) 0 ++ doneRuns s j .superseded o.detail)) ∧
    (d.sq.pst ≠ .absent →
      Does (.presFall n) s
        (nodeEvent (slotAnswered ((s.moved n .absent).modNode n fun d =>
          { d.cutPower with
            sq := (d.sq.closed o .aborted detailRemoved s.msclk).enter .absent s.msclk,
            lv := d.lv.change d.sq.pst .absent s.msclk, port := d.port.resetValues,
            pins := { d.pins with pres := false } }) j) n .presenceChanged)
        (doneRuns s j .aborted (o.detail ||| detailRemoved))) ∧
    (d.sq.pst = .inrush ∧ d.sq.pgSeen = true ∨ d.sq.pst = .gated ∨ d.sq.pst.released = true ∧ d.pins.slpOff = false →
      Does (.pgoodFall n) s
        (nodeEvent (slotAnswered ((s.moved n .fault).modNode n fun d =>
          { d.cutPower with
            pins := { d.pins with pgood := false },
            sq := { (d.sq.closed o .faulted detailPgoodLost s.msclk).enter .fault s.msclk with faultReason := .pgoodLost },
            lv := d.lv.change d.sq.pst .fault s.msclk }) j) n .fault)
        (doneRuns s j .faulted (o.detail ||| detailPgoodLost))) ∧
    (d.sq.pst.released = true → d.pins.slpOff = true → o.code ≠ .powerOff →
      Does (.pgoodFall n) s
        (slotAnswered ((s.moved n .off).modNode n fun d =>
          { d.cutPower with
            pins := { d.pins with pgood := false },
            sq := (d.sq.closed o .aborted detailNodeOff s.msclk).enter .off s.msclk,
            lv := d.lv.change d.sq.pst .off s.msclk }) j)
        (doneRuns s j .aborted (o.detail ||| detailNodeOff)))

/-- R66, R67, section 10.6: the 512 bytes of a capture record's header, field by field, and the records that a capture
copies, oldest first. The fields of a count or a counter that they do not hold are free (assumption 12). For a receive
history of at most 24 bytes. That the order fields show 0, 0xFF and 0 with no power order in progress, and that the
count, the first block and the counter show 0 with no media command in progress, are the model's choices (assumptions
46 and 43). -/
def Obligations.CaptureRecordLayout : Prop :=
  ∀ (s : State) (n : NodeId) (source slot : Nat) (lines : List (List Byte)), (s.node n).hist.length ≤ 24 →
    let h := captureHeader s n source slot lines
    let d := s.node n
    let q := d.sq
    let age (origin : Word) : Word := if q.pst = .running then s.msclk - origin else 0
    h.length = 512 ∧
    byteAt h 0x00 = n.val ∧ byteAt h 0x01 = source % 256 ∧ byteAt h 0x02 = slot % 256 ∧ wordAt h 0x04 = s.msclk ∧
    halfAt h 0x08 = q.boot.toNat ∧ byteAt h 0x0A = q.pst.code ∧ byteAt h 0x0B = q.faultReason.code ∧
    wordAt h 0x0C = q.since ∧
    (∀ o ∈ q.order, byteAt h 0x10 = o.code.code ∧ byteAt h 0x11 = o.src.code ∧ h.getD 0x12 0 = o.flags) ∧
    (q.order = none → byteAt h 0x10 = 0 ∧ byteAt h 0x11 = 0xFF ∧ byteAt h 0x12 = 0) ∧
    halfAt h 0x14 = s.reservation n % 65536 ∧ halfAt h 0x16 = s.total % 65536 ∧
    halfAt h 0x18 = s.shelf.effective % 65536 ∧ halfAt h 0x1A = s.shelf.limit % 65536 ∧
    byteAt h 0x1C = s.shelf.isOver.toNat ∧
    byteAt h 0x1D = (if n ∈ s.shelf.queue then s.shelf.queue.idxOf n + 1 else 0) % 256 ∧
    byteAt h 0x1E = d.ch.txq.length % 256 ∧ byteAt h 0x1F = d.hist.length ∧
    wordAt h 0x20 = age d.lv.hbOrigin ∧ wordAt h 0x24 = age d.lv.silOrigin ∧ wordAt h 0x28 = d.lv.hungSince ∧
    halfAt h 0x2C = d.lv.edges % 65536 ∧ byteAt h 0x2E = d.lv.hung.toNat ∧ byteAt h 0x2F = d.lv.recovery % 256 ∧
    byteAt h 0x30 = d.lv.limit % 256 ∧ byteAt h 0x31 = d.lv.action.code ∧
    longAt h 0x34 = d.lv.hbWindow % 4294967296 ∧ longAt h 0x38 = d.lv.silWindow % 4294967296 ∧
    wordAt h 0x3C = d.events ∧ (h.drop 0x40).take 24 = d.hist ++ List.replicate (24 - d.hist.length) 0 ∧
    byteAt h 0x58 = d.att.st.code ∧ byteAt h 0x59 = s.ownedIn n .filling ∧ byteAt h 0x5A = s.ownedIn n .clean ∧
    byteAt h 0x5B = s.ownedIn n .dirty ∧ byteAt h 0x5C = s.ownedIn n .flushing ∧
    byteAt h 0x5D = s.ownedIn n .assembling ∧
    (∀ c ∈ d.port.cmd,
      byteAt h 0x5E = c.kind.code ∧ (c.count < 256 → byteAt h 0x5F = c.count) ∧
      longAt h 0x60 = c.first % 4294967296 ∧ (c.counter < 4294967296 → longAt h 0x64 = c.counter)) ∧
    (d.port.cmd = none → byteAt h 0x5E = 0 ∧ byteAt h 0x5F = 0 ∧ longAt h 0x60 = 0 ∧ longAt h 0x64 = 0) ∧
    byteAt h 0x68 = lines.length % 256 ∧ wordAt h 0x6C = (match lines with | [] => 0 | r :: _ => wordAt r 0) ∧
    byteAt h 0x03 = 0 ∧ byteAt h 0x13 = 0 ∧ halfAt h 0x32 = 0 ∧ byteAt h 0x69 = 0 ∧ halfAt h 0x6A = 0 ∧
    h.drop 0x70 = List.replicate 400 0 ∧
    captureLines s n = match d.jr.layout with
      | none => []
      | some l =>
        let k := min 28 (min d.jr.bodyCount l.body)
        (List.range k).map fun i =>
          s.mem.readRun (0x10000 + (l.base + l.pinned + (d.jr.bodyCount - k + i) % l.body) * 128) 128
end

