-- ==== Sys2Proof/Laws/State.lean ====
section
/-! SUPPORT. What each update of one part of the state leaves of every part: one lemma per field per update. -/

namespace Sys2Proof.Machine

/-! ### Vectors -/

theorem vector_get_eq {α : Type} {n : Nat} (v : Vector α n) (i : Fin n) : v.get i = v[i.val] := rfl

@[simp] theorem vset_get_self {α : Type} {n : Nat} (v : Vector α n) (i : Fin n) (x : α) : (vset v i x).get i = x := by
  simp [vset, vector_get_eq]

@[simp] theorem vset_get_ne {α : Type} {n : Nat} (v : Vector α n) {i j : Fin n} (x : α) (h : j ≠ i) :
    (vset v i x).get j = v.get j := by
  have h' : i.val ≠ j.val := fun e => h (Fin.ext e.symm)
  simp [vset, vector_get_eq, h']

theorem vset_get {α : Type} {n : Nat} (v : Vector α n) (i j : Fin n) (x : α) :
    (vset v i x).get j = if j = i then x else v.get j := by
  by_cases h : j = i
  · subst h; simp
  · simp [h]

@[simp] theorem vmod_get_self {α : Type} {n : Nat} (v : Vector α n) (i : Fin n) (f : α → α) :
    (vmod v i f).get i = f (v.get i) := by
  simp [vmod]

@[simp] theorem vmod_get_ne {α : Type} {n : Nat} (v : Vector α n) {i j : Fin n} (f : α → α) (h : j ≠ i) :
    (vmod v i f).get j = v.get j := by
  simp [vmod, h]

theorem vmod_get {α : Type} {n : Nat} (v : Vector α n) (i j : Fin n) (f : α → α) :
    (vmod v i f).get j = if j = i then f (v.get j) else v.get j := by
  by_cases h : j = i
  · subst h; simp
  · simp [h]

@[simp] theorem vmap_get {α β : Type} {n : Nat} (v : Vector α n) (f : α → β) (i : Fin n) : (vmap v f).get i = f (v.get i) := by
  simp [vmap, vector_get_eq]

/-- Two vectors with the same element at every index are equal. -/
theorem vector_ext_get {α : Type} {n : Nat} {v w : Vector α n} (h : ∀ i : Fin n, v.get i = w.get i) : v = w := by
  apply Vector.ext
  intro i hi
  exact h ⟨i, hi⟩

@[simp] theorem vset_vset {α : Type} {n : Nat} (v : Vector α n) (i : Fin n) (x y : α) :
    vset (vset v i x) i y = vset v i y := by
  apply vector_ext_get; intro j; simp only [vset_get]; split <;> rfl

@[simp] theorem vmod_vmod {α : Type} {n : Nat} (v : Vector α n) (i : Fin n) (f g : α → α) :
    vmod (vmod v i f) i g = vmod v i (fun x => g (f x)) := by
  simp [vmod]

@[simp] theorem vmod_id {α : Type} {n : Nat} (v : Vector α n) (i : Fin n) : vmod v i (fun x => x) = v := by
  apply vector_ext_get; intro j; simp only [vmod_get]; split <;> rfl

/-- An update counts by what it makes of the element it changes. -/
theorem vmod_congr {α : Type} {n : Nat} (v : Vector α n) (i : Fin n) {f g : α → α} (h : f (v.get i) = g (v.get i)) :
    vmod v i f = vmod v i g := by
  simp only [vmod, h]

variable (s : State)

/-! ### Node parts are updates of the node -/

@[simp] theorem State.modSq_eq (n : NodeId) (f : Sequencer → Sequencer) :
    s.modSq n f = s.modNode n fun d => { d with sq := f d.sq } := rfl

@[simp] theorem State.modLv_eq (n : NodeId) (f : Liveness → Liveness) :
    s.modLv n f = s.modNode n fun d => { d with lv := f d.lv } := rfl

@[simp] theorem State.modCh_eq (n : NodeId) (f : Channel → Channel) :
    s.modCh n f = s.modNode n fun d => { d with ch := f d.ch } := rfl

@[simp] theorem State.modJr_eq (n : NodeId) (f : Journal → Journal) :
    s.modJr n f = s.modNode n fun d => { d with jr := f d.jr } := rfl

@[simp] theorem State.modPort_eq (n : NodeId) (f : Port → Port) :
    s.modPort n f = s.modNode n fun d => { d with port := f d.port } := rfl

@[simp] theorem State.modAtt_eq (n : NodeId) (f : Attachment → Attachment) :
    s.modAtt n f = s.modNode n fun d => { d with att := f d.att } := rfl

@[simp] theorem State.modPins_eq (n : NodeId) (f : Pins → Pins) :
    s.modPins n f = s.modNode n fun d => { d with pins := f d.pins } := rfl

@[simp] theorem State.modPair_eq (i : WatchId) (n : NodeId) (g : Pair → Pair) :
    s.modPair i n g = s.modWatch i fun e => { e with pairs := vmod e.pairs n g } := rfl

/-! ### A node -/

@[simp] theorem State.modNode_mem (n : NodeId) (f : Node → Node) : (s.modNode n f).mem = s.mem := rfl
@[simp] theorem State.modNode_msclk (n : NodeId) (f : Node → Node) : (s.modNode n f).msclk = s.msclk := rfl
@[simp] theorem State.modNode_init (n : NodeId) (f : Node → Node) : (s.modNode n f).init = s.init := rfl
@[simp] theorem State.modNode_hold (n : NodeId) (f : Node → Node) : (s.modNode n f).hold = s.hold := rfl
@[simp] theorem State.modNode_imode (n : NodeId) (f : Node → Node) : (s.modNode n f).imode = s.imode := rfl
@[simp] theorem State.modNode_ien (n : NodeId) (f : Node → Node) : (s.modNode n f).ien = s.ien := rfl
@[simp] theorem State.modNode_attn (n : NodeId) (f : Node → Node) : (s.modNode n f).attn = s.attn := rfl
@[simp] theorem State.modNode_attnEn (n : NodeId) (f : Node → Node) : (s.modNode n f).attnEn = s.attnEn := rfl
@[simp] theorem State.modNode_refused (n : NodeId) (f : Node → Node) : (s.modNode n f).refused = s.refused := rfl
@[simp] theorem State.modNode_pulse (n : NodeId) (f : Node → Node) : (s.modNode n f).pulse = s.pulse := rfl
@[simp] theorem State.modNode_supplyA (n : NodeId) (f : Node → Node) : (s.modNode n f).supplyA = s.supplyA := rfl
@[simp] theorem State.modNode_supplyB (n : NodeId) (f : Node → Node) : (s.modNode n f).supplyB = s.supplyB := rfl
@[simp] theorem State.modNode_shelf (n : NodeId) (f : Node → Node) : (s.modNode n f).shelf = s.shelf := rfl
@[simp] theorem State.modNode_slots (n : NodeId) (f : Node → Node) : (s.modNode n f).slots = s.slots := rfl
@[simp] theorem State.modNode_watch (n : NodeId) (f : Node → Node) : (s.modNode n f).watch = s.watch := rfl
@[simp] theorem State.modNode_frames (n : NodeId) (f : Node → Node) : (s.modNode n f).frames = s.frames := rfl
@[simp] theorem State.modNode_clean (n : NodeId) (f : Node → Node) : (s.modNode n f).clean = s.clean := rfl
@[simp] theorem State.modNode_entries (n : NodeId) (f : Node → Node) : (s.modNode n f).entries = s.entries := rfl
@[simp] theorem State.modNode_waitList (n : NodeId) (f : Node → Node) : (s.modNode n f).waitList = s.waitList := rfl
@[simp] theorem State.modNode_waits (n : NodeId) (f : Node → Node) : (s.modNode n f).waits = s.waits := rfl
@[simp] theorem State.modNode_records (n : NodeId) (f : Node → Node) : (s.modNode n f).records = s.records := rfl
@[simp] theorem State.modNode_pending (n : NodeId) (f : Node → Node) : (s.modNode n f).pending = s.pending := rfl

@[simp] theorem State.modNode_node_self (n : NodeId) (f : Node → Node) : (s.modNode n f).node n = f (s.node n) := by
  simp [State.modNode, State.node]

@[simp] theorem State.modNode_node_ne {n m : NodeId} (f : Node → Node) (h : m ≠ n) : (s.modNode n f).node m = s.node m := by
  simp [State.modNode, State.node, h]

theorem State.modNode_node (n m : NodeId) (f : Node → Node) :
    (s.modNode n f).node m = if m = n then f (s.node m) else s.node m := by
  simp [State.modNode, State.node, vmod_get]

@[simp] theorem State.modNode_modNode (n : NodeId) (f g : Node → Node) :
    (s.modNode n f).modNode n g = s.modNode n fun x => g (f x) := by
  simp [State.modNode]

/-! ### The shelf -/

@[simp] theorem State.modShelf_mem (f : Shelf → Shelf) : (s.modShelf f).mem = s.mem := rfl
@[simp] theorem State.modShelf_msclk (f : Shelf → Shelf) : (s.modShelf f).msclk = s.msclk := rfl
@[simp] theorem State.modShelf_init (f : Shelf → Shelf) : (s.modShelf f).init = s.init := rfl
@[simp] theorem State.modShelf_hold (f : Shelf → Shelf) : (s.modShelf f).hold = s.hold := rfl
@[simp] theorem State.modShelf_imode (f : Shelf → Shelf) : (s.modShelf f).imode = s.imode := rfl
@[simp] theorem State.modShelf_ien (f : Shelf → Shelf) : (s.modShelf f).ien = s.ien := rfl
@[simp] theorem State.modShelf_attn (f : Shelf → Shelf) : (s.modShelf f).attn = s.attn := rfl
@[simp] theorem State.modShelf_attnEn (f : Shelf → Shelf) : (s.modShelf f).attnEn = s.attnEn := rfl
@[simp] theorem State.modShelf_refused (f : Shelf → Shelf) : (s.modShelf f).refused = s.refused := rfl
@[simp] theorem State.modShelf_pulse (f : Shelf → Shelf) : (s.modShelf f).pulse = s.pulse := rfl
@[simp] theorem State.modShelf_supplyA (f : Shelf → Shelf) : (s.modShelf f).supplyA = s.supplyA := rfl
@[simp] theorem State.modShelf_supplyB (f : Shelf → Shelf) : (s.modShelf f).supplyB = s.supplyB := rfl
@[simp] theorem State.modShelf_nodes (f : Shelf → Shelf) : (s.modShelf f).nodes = s.nodes := rfl
@[simp] theorem State.modShelf_slots (f : Shelf → Shelf) : (s.modShelf f).slots = s.slots := rfl
@[simp] theorem State.modShelf_watch (f : Shelf → Shelf) : (s.modShelf f).watch = s.watch := rfl
@[simp] theorem State.modShelf_frames (f : Shelf → Shelf) : (s.modShelf f).frames = s.frames := rfl
@[simp] theorem State.modShelf_clean (f : Shelf → Shelf) : (s.modShelf f).clean = s.clean := rfl
@[simp] theorem State.modShelf_entries (f : Shelf → Shelf) : (s.modShelf f).entries = s.entries := rfl
@[simp] theorem State.modShelf_waitList (f : Shelf → Shelf) : (s.modShelf f).waitList = s.waitList := rfl
@[simp] theorem State.modShelf_waits (f : Shelf → Shelf) : (s.modShelf f).waits = s.waits := rfl
@[simp] theorem State.modShelf_records (f : Shelf → Shelf) : (s.modShelf f).records = s.records := rfl
@[simp] theorem State.modShelf_pending (f : Shelf → Shelf) : (s.modShelf f).pending = s.pending := rfl

@[simp] theorem State.modShelf_shelf (f : Shelf → Shelf) : (s.modShelf f).shelf = f s.shelf := rfl

/-! ### A slot -/

@[simp] theorem State.modSlot_mem (k : SlotId) (f : SlotCopy → SlotCopy) : (s.modSlot k f).mem = s.mem := rfl
@[simp] theorem State.modSlot_msclk (k : SlotId) (f : SlotCopy → SlotCopy) : (s.modSlot k f).msclk = s.msclk := rfl
@[simp] theorem State.modSlot_init (k : SlotId) (f : SlotCopy → SlotCopy) : (s.modSlot k f).init = s.init := rfl
@[simp] theorem State.modSlot_hold (k : SlotId) (f : SlotCopy → SlotCopy) : (s.modSlot k f).hold = s.hold := rfl
@[simp] theorem State.modSlot_imode (k : SlotId) (f : SlotCopy → SlotCopy) : (s.modSlot k f).imode = s.imode := rfl
@[simp] theorem State.modSlot_ien (k : SlotId) (f : SlotCopy → SlotCopy) : (s.modSlot k f).ien = s.ien := rfl
@[simp] theorem State.modSlot_attn (k : SlotId) (f : SlotCopy → SlotCopy) : (s.modSlot k f).attn = s.attn := rfl
@[simp] theorem State.modSlot_attnEn (k : SlotId) (f : SlotCopy → SlotCopy) : (s.modSlot k f).attnEn = s.attnEn := rfl
@[simp] theorem State.modSlot_refused (k : SlotId) (f : SlotCopy → SlotCopy) : (s.modSlot k f).refused = s.refused := rfl
@[simp] theorem State.modSlot_pulse (k : SlotId) (f : SlotCopy → SlotCopy) : (s.modSlot k f).pulse = s.pulse := rfl
@[simp] theorem State.modSlot_supplyA (k : SlotId) (f : SlotCopy → SlotCopy) : (s.modSlot k f).supplyA = s.supplyA := rfl
@[simp] theorem State.modSlot_supplyB (k : SlotId) (f : SlotCopy → SlotCopy) : (s.modSlot k f).supplyB = s.supplyB := rfl
@[simp] theorem State.modSlot_shelf (k : SlotId) (f : SlotCopy → SlotCopy) : (s.modSlot k f).shelf = s.shelf := rfl
@[simp] theorem State.modSlot_nodes (k : SlotId) (f : SlotCopy → SlotCopy) : (s.modSlot k f).nodes = s.nodes := rfl
@[simp] theorem State.modSlot_watch (k : SlotId) (f : SlotCopy → SlotCopy) : (s.modSlot k f).watch = s.watch := rfl
@[simp] theorem State.modSlot_frames (k : SlotId) (f : SlotCopy → SlotCopy) : (s.modSlot k f).frames = s.frames := rfl
@[simp] theorem State.modSlot_clean (k : SlotId) (f : SlotCopy → SlotCopy) : (s.modSlot k f).clean = s.clean := rfl
@[simp] theorem State.modSlot_entries (k : SlotId) (f : SlotCopy → SlotCopy) : (s.modSlot k f).entries = s.entries := rfl
@[simp] theorem State.modSlot_waitList (k : SlotId) (f : SlotCopy → SlotCopy) : (s.modSlot k f).waitList = s.waitList := rfl
@[simp] theorem State.modSlot_waits (k : SlotId) (f : SlotCopy → SlotCopy) : (s.modSlot k f).waits = s.waits := rfl
@[simp] theorem State.modSlot_records (k : SlotId) (f : SlotCopy → SlotCopy) : (s.modSlot k f).records = s.records := rfl
@[simp] theorem State.modSlot_pending (k : SlotId) (f : SlotCopy → SlotCopy) : (s.modSlot k f).pending = s.pending := rfl

@[simp] theorem State.modSlot_slot_self (n : SlotId) (f : SlotCopy → SlotCopy) : (s.modSlot n f).slot n = f (s.slot n) := by
  simp [State.modSlot, State.slot]

@[simp] theorem State.modSlot_slot_ne {n m : SlotId} (f : SlotCopy → SlotCopy) (h : m ≠ n) : (s.modSlot n f).slot m = s.slot m := by
  simp [State.modSlot, State.slot, h]

theorem State.modSlot_slot (n m : SlotId) (f : SlotCopy → SlotCopy) :
    (s.modSlot n f).slot m = if m = n then f (s.slot m) else s.slot m := by
  simp [State.modSlot, State.slot, vmod_get]

@[simp] theorem State.modSlot_modSlot (n : SlotId) (f g : SlotCopy → SlotCopy) :
    (s.modSlot n f).modSlot n g = s.modSlot n fun x => g (f x) := by
  simp [State.modSlot]

/-! ### A frame -/

@[simp] theorem State.modFrame_mem (k : FrameId) (f : Frame → Frame) : (s.modFrame k f).mem = s.mem := rfl
@[simp] theorem State.modFrame_msclk (k : FrameId) (f : Frame → Frame) : (s.modFrame k f).msclk = s.msclk := rfl
@[simp] theorem State.modFrame_init (k : FrameId) (f : Frame → Frame) : (s.modFrame k f).init = s.init := rfl
@[simp] theorem State.modFrame_hold (k : FrameId) (f : Frame → Frame) : (s.modFrame k f).hold = s.hold := rfl
@[simp] theorem State.modFrame_imode (k : FrameId) (f : Frame → Frame) : (s.modFrame k f).imode = s.imode := rfl
@[simp] theorem State.modFrame_ien (k : FrameId) (f : Frame → Frame) : (s.modFrame k f).ien = s.ien := rfl
@[simp] theorem State.modFrame_attn (k : FrameId) (f : Frame → Frame) : (s.modFrame k f).attn = s.attn := rfl
@[simp] theorem State.modFrame_attnEn (k : FrameId) (f : Frame → Frame) : (s.modFrame k f).attnEn = s.attnEn := rfl
@[simp] theorem State.modFrame_refused (k : FrameId) (f : Frame → Frame) : (s.modFrame k f).refused = s.refused := rfl
@[simp] theorem State.modFrame_pulse (k : FrameId) (f : Frame → Frame) : (s.modFrame k f).pulse = s.pulse := rfl
@[simp] theorem State.modFrame_supplyA (k : FrameId) (f : Frame → Frame) : (s.modFrame k f).supplyA = s.supplyA := rfl
@[simp] theorem State.modFrame_supplyB (k : FrameId) (f : Frame → Frame) : (s.modFrame k f).supplyB = s.supplyB := rfl
@[simp] theorem State.modFrame_shelf (k : FrameId) (f : Frame → Frame) : (s.modFrame k f).shelf = s.shelf := rfl
@[simp] theorem State.modFrame_nodes (k : FrameId) (f : Frame → Frame) : (s.modFrame k f).nodes = s.nodes := rfl
@[simp] theorem State.modFrame_slots (k : FrameId) (f : Frame → Frame) : (s.modFrame k f).slots = s.slots := rfl
@[simp] theorem State.modFrame_watch (k : FrameId) (f : Frame → Frame) : (s.modFrame k f).watch = s.watch := rfl
@[simp] theorem State.modFrame_clean (k : FrameId) (f : Frame → Frame) : (s.modFrame k f).clean = s.clean := rfl
@[simp] theorem State.modFrame_entries (k : FrameId) (f : Frame → Frame) : (s.modFrame k f).entries = s.entries := rfl
@[simp] theorem State.modFrame_waitList (k : FrameId) (f : Frame → Frame) : (s.modFrame k f).waitList = s.waitList := rfl
@[simp] theorem State.modFrame_waits (k : FrameId) (f : Frame → Frame) : (s.modFrame k f).waits = s.waits := rfl
@[simp] theorem State.modFrame_records (k : FrameId) (f : Frame → Frame) : (s.modFrame k f).records = s.records := rfl
@[simp] theorem State.modFrame_pending (k : FrameId) (f : Frame → Frame) : (s.modFrame k f).pending = s.pending := rfl

@[simp] theorem State.modFrame_frame_self (n : FrameId) (f : Frame → Frame) : (s.modFrame n f).frame n = f (s.frame n) := by
  simp [State.modFrame, State.frame]

@[simp] theorem State.modFrame_frame_ne {n m : FrameId} (f : Frame → Frame) (h : m ≠ n) : (s.modFrame n f).frame m = s.frame m := by
  simp [State.modFrame, State.frame, h]

theorem State.modFrame_frame (n m : FrameId) (f : Frame → Frame) :
    (s.modFrame n f).frame m = if m = n then f (s.frame m) else s.frame m := by
  simp [State.modFrame, State.frame, vmod_get]

@[simp] theorem State.modFrame_modFrame (n : FrameId) (f g : Frame → Frame) :
    (s.modFrame n f).modFrame n g = s.modFrame n fun x => g (f x) := by
  simp [State.modFrame]

/-! ### A transfer entry -/

@[simp] theorem State.modEntry_mem (e : EntryId) (f : Entry → Entry) : (s.modEntry e f).mem = s.mem := rfl
@[simp] theorem State.modEntry_msclk (e : EntryId) (f : Entry → Entry) : (s.modEntry e f).msclk = s.msclk := rfl
@[simp] theorem State.modEntry_init (e : EntryId) (f : Entry → Entry) : (s.modEntry e f).init = s.init := rfl
@[simp] theorem State.modEntry_hold (e : EntryId) (f : Entry → Entry) : (s.modEntry e f).hold = s.hold := rfl
@[simp] theorem State.modEntry_imode (e : EntryId) (f : Entry → Entry) : (s.modEntry e f).imode = s.imode := rfl
@[simp] theorem State.modEntry_ien (e : EntryId) (f : Entry → Entry) : (s.modEntry e f).ien = s.ien := rfl
@[simp] theorem State.modEntry_attn (e : EntryId) (f : Entry → Entry) : (s.modEntry e f).attn = s.attn := rfl
@[simp] theorem State.modEntry_attnEn (e : EntryId) (f : Entry → Entry) : (s.modEntry e f).attnEn = s.attnEn := rfl
@[simp] theorem State.modEntry_refused (e : EntryId) (f : Entry → Entry) : (s.modEntry e f).refused = s.refused := rfl
@[simp] theorem State.modEntry_pulse (e : EntryId) (f : Entry → Entry) : (s.modEntry e f).pulse = s.pulse := rfl
@[simp] theorem State.modEntry_supplyA (e : EntryId) (f : Entry → Entry) : (s.modEntry e f).supplyA = s.supplyA := rfl
@[simp] theorem State.modEntry_supplyB (e : EntryId) (f : Entry → Entry) : (s.modEntry e f).supplyB = s.supplyB := rfl
@[simp] theorem State.modEntry_shelf (e : EntryId) (f : Entry → Entry) : (s.modEntry e f).shelf = s.shelf := rfl
@[simp] theorem State.modEntry_nodes (e : EntryId) (f : Entry → Entry) : (s.modEntry e f).nodes = s.nodes := rfl
@[simp] theorem State.modEntry_slots (e : EntryId) (f : Entry → Entry) : (s.modEntry e f).slots = s.slots := rfl
@[simp] theorem State.modEntry_watch (e : EntryId) (f : Entry → Entry) : (s.modEntry e f).watch = s.watch := rfl
@[simp] theorem State.modEntry_frames (e : EntryId) (f : Entry → Entry) : (s.modEntry e f).frames = s.frames := rfl
@[simp] theorem State.modEntry_clean (e : EntryId) (f : Entry → Entry) : (s.modEntry e f).clean = s.clean := rfl
@[simp] theorem State.modEntry_waitList (e : EntryId) (f : Entry → Entry) : (s.modEntry e f).waitList = s.waitList := rfl
@[simp] theorem State.modEntry_waits (e : EntryId) (f : Entry → Entry) : (s.modEntry e f).waits = s.waits := rfl
@[simp] theorem State.modEntry_records (e : EntryId) (f : Entry → Entry) : (s.modEntry e f).records = s.records := rfl
@[simp] theorem State.modEntry_pending (e : EntryId) (f : Entry → Entry) : (s.modEntry e f).pending = s.pending := rfl

@[simp] theorem State.modEntry_entry_self (n : EntryId) (f : Entry → Entry) : (s.modEntry n f).entry n = f (s.entry n) := by
  simp [State.modEntry, State.entry]

@[simp] theorem State.modEntry_entry_ne {n m : EntryId} (f : Entry → Entry) (h : m ≠ n) : (s.modEntry n f).entry m = s.entry m := by
  simp [State.modEntry, State.entry, h]

theorem State.modEntry_entry (n m : EntryId) (f : Entry → Entry) :
    (s.modEntry n f).entry m = if m = n then f (s.entry m) else s.entry m := by
  simp [State.modEntry, State.entry, vmod_get]

@[simp] theorem State.modEntry_modEntry (n : EntryId) (f g : Entry → Entry) :
    (s.modEntry n f).modEntry n g = s.modEntry n fun x => g (f x) := by
  simp [State.modEntry]

/-! ### A watch entry -/

@[simp] theorem State.modWatch_mem (i : WatchId) (f : WatchEntry → WatchEntry) : (s.modWatch i f).mem = s.mem := rfl
@[simp] theorem State.modWatch_msclk (i : WatchId) (f : WatchEntry → WatchEntry) : (s.modWatch i f).msclk = s.msclk := rfl
@[simp] theorem State.modWatch_init (i : WatchId) (f : WatchEntry → WatchEntry) : (s.modWatch i f).init = s.init := rfl
@[simp] theorem State.modWatch_hold (i : WatchId) (f : WatchEntry → WatchEntry) : (s.modWatch i f).hold = s.hold := rfl
@[simp] theorem State.modWatch_imode (i : WatchId) (f : WatchEntry → WatchEntry) : (s.modWatch i f).imode = s.imode := rfl
@[simp] theorem State.modWatch_ien (i : WatchId) (f : WatchEntry → WatchEntry) : (s.modWatch i f).ien = s.ien := rfl
@[simp] theorem State.modWatch_attn (i : WatchId) (f : WatchEntry → WatchEntry) : (s.modWatch i f).attn = s.attn := rfl
@[simp] theorem State.modWatch_attnEn (i : WatchId) (f : WatchEntry → WatchEntry) : (s.modWatch i f).attnEn = s.attnEn := rfl
@[simp] theorem State.modWatch_refused (i : WatchId) (f : WatchEntry → WatchEntry) : (s.modWatch i f).refused = s.refused := rfl
@[simp] theorem State.modWatch_pulse (i : WatchId) (f : WatchEntry → WatchEntry) : (s.modWatch i f).pulse = s.pulse := rfl
@[simp] theorem State.modWatch_supplyA (i : WatchId) (f : WatchEntry → WatchEntry) : (s.modWatch i f).supplyA = s.supplyA := rfl
@[simp] theorem State.modWatch_supplyB (i : WatchId) (f : WatchEntry → WatchEntry) : (s.modWatch i f).supplyB = s.supplyB := rfl
@[simp] theorem State.modWatch_shelf (i : WatchId) (f : WatchEntry → WatchEntry) : (s.modWatch i f).shelf = s.shelf := rfl
@[simp] theorem State.modWatch_nodes (i : WatchId) (f : WatchEntry → WatchEntry) : (s.modWatch i f).nodes = s.nodes := rfl
@[simp] theorem State.modWatch_slots (i : WatchId) (f : WatchEntry → WatchEntry) : (s.modWatch i f).slots = s.slots := rfl
@[simp] theorem State.modWatch_frames (i : WatchId) (f : WatchEntry → WatchEntry) : (s.modWatch i f).frames = s.frames := rfl
@[simp] theorem State.modWatch_clean (i : WatchId) (f : WatchEntry → WatchEntry) : (s.modWatch i f).clean = s.clean := rfl
@[simp] theorem State.modWatch_entries (i : WatchId) (f : WatchEntry → WatchEntry) : (s.modWatch i f).entries = s.entries := rfl
@[simp] theorem State.modWatch_waitList (i : WatchId) (f : WatchEntry → WatchEntry) : (s.modWatch i f).waitList = s.waitList := rfl
@[simp] theorem State.modWatch_waits (i : WatchId) (f : WatchEntry → WatchEntry) : (s.modWatch i f).waits = s.waits := rfl
@[simp] theorem State.modWatch_records (i : WatchId) (f : WatchEntry → WatchEntry) : (s.modWatch i f).records = s.records := rfl
@[simp] theorem State.modWatch_pending (i : WatchId) (f : WatchEntry → WatchEntry) : (s.modWatch i f).pending = s.pending := rfl

@[simp] theorem State.modWatch_watchEntry_self (n : WatchId) (f : WatchEntry → WatchEntry) : (s.modWatch n f).watchEntry n = f (s.watchEntry n) := by
  simp [State.modWatch, State.watchEntry]

@[simp] theorem State.modWatch_watchEntry_ne {n m : WatchId} (f : WatchEntry → WatchEntry) (h : m ≠ n) : (s.modWatch n f).watchEntry m = s.watchEntry m := by
  simp [State.modWatch, State.watchEntry, h]

theorem State.modWatch_watchEntry (n m : WatchId) (f : WatchEntry → WatchEntry) :
    (s.modWatch n f).watchEntry m = if m = n then f (s.watchEntry m) else s.watchEntry m := by
  simp [State.modWatch, State.watchEntry, vmod_get]

@[simp] theorem State.modWatch_modWatch (n : WatchId) (f g : WatchEntry → WatchEntry) :
    (s.modWatch n f).modWatch n g = s.modWatch n fun x => g (f x) := by
  simp [State.modWatch]

/-! ### The RAM -/

@[simp] theorem State.store_msclk (a : Nat) (bs : List Byte) : (s.store a bs).msclk = s.msclk := rfl
@[simp] theorem State.store_init (a : Nat) (bs : List Byte) : (s.store a bs).init = s.init := rfl
@[simp] theorem State.store_hold (a : Nat) (bs : List Byte) : (s.store a bs).hold = s.hold := rfl
@[simp] theorem State.store_imode (a : Nat) (bs : List Byte) : (s.store a bs).imode = s.imode := rfl
@[simp] theorem State.store_ien (a : Nat) (bs : List Byte) : (s.store a bs).ien = s.ien := rfl
@[simp] theorem State.store_attn (a : Nat) (bs : List Byte) : (s.store a bs).attn = s.attn := rfl
@[simp] theorem State.store_attnEn (a : Nat) (bs : List Byte) : (s.store a bs).attnEn = s.attnEn := rfl
@[simp] theorem State.store_refused (a : Nat) (bs : List Byte) : (s.store a bs).refused = s.refused := rfl
@[simp] theorem State.store_pulse (a : Nat) (bs : List Byte) : (s.store a bs).pulse = s.pulse := rfl
@[simp] theorem State.store_supplyA (a : Nat) (bs : List Byte) : (s.store a bs).supplyA = s.supplyA := rfl
@[simp] theorem State.store_supplyB (a : Nat) (bs : List Byte) : (s.store a bs).supplyB = s.supplyB := rfl
@[simp] theorem State.store_shelf (a : Nat) (bs : List Byte) : (s.store a bs).shelf = s.shelf := rfl
@[simp] theorem State.store_nodes (a : Nat) (bs : List Byte) : (s.store a bs).nodes = s.nodes := rfl
@[simp] theorem State.store_slots (a : Nat) (bs : List Byte) : (s.store a bs).slots = s.slots := rfl
@[simp] theorem State.store_watch (a : Nat) (bs : List Byte) : (s.store a bs).watch = s.watch := rfl
@[simp] theorem State.store_frames (a : Nat) (bs : List Byte) : (s.store a bs).frames = s.frames := rfl
@[simp] theorem State.store_clean (a : Nat) (bs : List Byte) : (s.store a bs).clean = s.clean := rfl
@[simp] theorem State.store_entries (a : Nat) (bs : List Byte) : (s.store a bs).entries = s.entries := rfl
@[simp] theorem State.store_waitList (a : Nat) (bs : List Byte) : (s.store a bs).waitList = s.waitList := rfl
@[simp] theorem State.store_waits (a : Nat) (bs : List Byte) : (s.store a bs).waits = s.waits := rfl
@[simp] theorem State.store_records (a : Nat) (bs : List Byte) : (s.store a bs).records = s.records := rfl
@[simp] theorem State.store_pending (a : Nat) (bs : List Byte) : (s.store a bs).pending = s.pending := rfl

@[simp] theorem State.store_mem (a : Nat) (bs : List Byte) : (s.store a bs).mem = s.mem.write a bs := rfl

/-! ### Accessors across updates of other parts -/

@[simp] theorem State.modShelf_node (f : Shelf → Shelf) (x : NodeId) : (s.modShelf f).node x = s.node x := rfl
@[simp] theorem State.modSlot_node (k : SlotId) (f : SlotCopy → SlotCopy) (x : NodeId) : (s.modSlot k f).node x = s.node x := rfl
@[simp] theorem State.modFrame_node (k : FrameId) (f : Frame → Frame) (x : NodeId) : (s.modFrame k f).node x = s.node x := rfl
@[simp] theorem State.modEntry_node (e : EntryId) (f : Entry → Entry) (x : NodeId) : (s.modEntry e f).node x = s.node x := rfl
@[simp] theorem State.modWatch_node (i : WatchId) (f : WatchEntry → WatchEntry) (x : NodeId) : (s.modWatch i f).node x = s.node x := rfl
@[simp] theorem State.store_node (a : Nat) (bs : List Byte) (x : NodeId) : (s.store a bs).node x = s.node x := rfl
@[simp] theorem State.modNode_slot (n : NodeId) (f : Node → Node) (x : SlotId) : (s.modNode n f).slot x = s.slot x := rfl
@[simp] theorem State.modShelf_slot (f : Shelf → Shelf) (x : SlotId) : (s.modShelf f).slot x = s.slot x := rfl
@[simp] theorem State.modFrame_slot (k : FrameId) (f : Frame → Frame) (x : SlotId) : (s.modFrame k f).slot x = s.slot x := rfl
@[simp] theorem State.modEntry_slot (e : EntryId) (f : Entry → Entry) (x : SlotId) : (s.modEntry e f).slot x = s.slot x := rfl
@[simp] theorem State.modWatch_slot (i : WatchId) (f : WatchEntry → WatchEntry) (x : SlotId) : (s.modWatch i f).slot x = s.slot x := rfl
@[simp] theorem State.store_slot (a : Nat) (bs : List Byte) (x : SlotId) : (s.store a bs).slot x = s.slot x := rfl
@[simp] theorem State.modNode_frame (n : NodeId) (f : Node → Node) (x : FrameId) : (s.modNode n f).frame x = s.frame x := rfl
@[simp] theorem State.modShelf_frame (f : Shelf → Shelf) (x : FrameId) : (s.modShelf f).frame x = s.frame x := rfl
@[simp] theorem State.modSlot_frame (k : SlotId) (f : SlotCopy → SlotCopy) (x : FrameId) : (s.modSlot k f).frame x = s.frame x := rfl
@[simp] theorem State.modEntry_frame (e : EntryId) (f : Entry → Entry) (x : FrameId) : (s.modEntry e f).frame x = s.frame x := rfl
@[simp] theorem State.modWatch_frame (i : WatchId) (f : WatchEntry → WatchEntry) (x : FrameId) : (s.modWatch i f).frame x = s.frame x := rfl
@[simp] theorem State.store_frame (a : Nat) (bs : List Byte) (x : FrameId) : (s.store a bs).frame x = s.frame x := rfl
@[simp] theorem State.modNode_entry (n : NodeId) (f : Node → Node) (x : EntryId) : (s.modNode n f).entry x = s.entry x := rfl
@[simp] theorem State.modShelf_entry (f : Shelf → Shelf) (x : EntryId) : (s.modShelf f).entry x = s.entry x := rfl
@[simp] theorem State.modSlot_entry (k : SlotId) (f : SlotCopy → SlotCopy) (x : EntryId) : (s.modSlot k f).entry x = s.entry x := rfl
@[simp] theorem State.modFrame_entry (k : FrameId) (f : Frame → Frame) (x : EntryId) : (s.modFrame k f).entry x = s.entry x := rfl
@[simp] theorem State.modWatch_entry (i : WatchId) (f : WatchEntry → WatchEntry) (x : EntryId) : (s.modWatch i f).entry x = s.entry x := rfl
@[simp] theorem State.store_entry (a : Nat) (bs : List Byte) (x : EntryId) : (s.store a bs).entry x = s.entry x := rfl
@[simp] theorem State.modNode_watchEntry (n : NodeId) (f : Node → Node) (x : WatchId) : (s.modNode n f).watchEntry x = s.watchEntry x := rfl
@[simp] theorem State.modShelf_watchEntry (f : Shelf → Shelf) (x : WatchId) : (s.modShelf f).watchEntry x = s.watchEntry x := rfl
@[simp] theorem State.modSlot_watchEntry (k : SlotId) (f : SlotCopy → SlotCopy) (x : WatchId) : (s.modSlot k f).watchEntry x = s.watchEntry x := rfl
@[simp] theorem State.modFrame_watchEntry (k : FrameId) (f : Frame → Frame) (x : WatchId) : (s.modFrame k f).watchEntry x = s.watchEntry x := rfl
@[simp] theorem State.modEntry_watchEntry (e : EntryId) (f : Entry → Entry) (x : WatchId) : (s.modEntry e f).watchEntry x = s.watchEntry x := rfl
@[simp] theorem State.store_watchEntry (a : Nat) (bs : List Byte) (x : WatchId) : (s.store a bs).watchEntry x = s.watchEntry x := rfl
@[simp] theorem State.modNode_record (n : NodeId) (f : Node → Node) (x : NodeId) : (s.modNode n f).record x = s.record x := rfl
@[simp] theorem State.modShelf_record (f : Shelf → Shelf) (x : NodeId) : (s.modShelf f).record x = s.record x := rfl
@[simp] theorem State.modSlot_record (k : SlotId) (f : SlotCopy → SlotCopy) (x : NodeId) : (s.modSlot k f).record x = s.record x := rfl
@[simp] theorem State.modFrame_record (k : FrameId) (f : Frame → Frame) (x : NodeId) : (s.modFrame k f).record x = s.record x := rfl
@[simp] theorem State.modEntry_record (e : EntryId) (f : Entry → Entry) (x : NodeId) : (s.modEntry e f).record x = s.record x := rfl
@[simp] theorem State.modWatch_record (i : WatchId) (f : WatchEntry → WatchEntry) (x : NodeId) : (s.modWatch i f).record x = s.record x := rfl
@[simp] theorem State.store_record (a : Nat) (bs : List Byte) (x : NodeId) : (s.store a bs).record x = s.record x := rfl

end Sys2Proof.Machine
end

