-- ==== Sys2Proof/Laws/Finish.lean ====
section
/-! SUPPORT. The end of an event: when the budget evaluation and the wait timers change nothing, the event leaves its effect, but
for the update counts. -/

namespace Sys2Proof.Machine

/-! ### Wait timers -/

theorem settleWait_of_settled {s : State} {n : NodeId} (h : (s.node n).port.waitT.isSome = s.waiting n) :
    settleWait s n = s := by
  unfold settleWait
  unfold State.waiting at h
  cases hc : (s.node n).port.cmd with
  | none => simp [hc] at h ⊢; simp [h]
  | some c =>
    simp only [hc] at h ⊢
    by_cases hw : (c.usesFrames && !s.data n) = true
    · rw [hw] at h; simp [hw, h]
    · have hf : (c.usesFrames && !s.data n) = false := by simpa using hw
      rw [hf] at h; simp [hf]; intro h'; rw [h'] at h; cases h

/-- R153: settled wait timers stay as they are. -/
theorem settleWaits_of_settled {s : State} (h : WaitsSettled s) : settleWaits s = s := by
  simp [settleWaits, allNodes, settleWait_of_settled (h _)]

/-- The wait timers look at the ports and the frames only. -/
theorem waitsSettled_congr {s t : State} (h : WaitsSettled s) (hp : ∀ n, (t.node n).port = (s.node n).port)
    (hf : t.frames = s.frames) : WaitsSettled t := by
  intro n
  have hd : t.data n = s.data n := by
    have hg (f : FrameId) : t.frame f = s.frame f := by simp only [State.frame, hf]
    have ho (c : PortCmd) : t.counterFrame n c = s.counterFrame n c := by
      unfold State.counterFrame State.owned
      congr 1; funext f; rw [hg]
    unfold State.data; simp only [hp, ho, hg]
  have := h n
  simp only [State.waiting, hp, hd] at this ⊢
  exact this

/-! ### The budget evaluation -/

/-- R36: on a calm shelf an evaluation changes nothing. -/
theorem evaluateBudget_of_calm {s : State} (h : Calm s) : evaluateBudget s = s := by
  obtain ⟨ho, ht, hq⟩ := h
  have hd : determineShelf s = s := by
    have : ¬ s.total > s.shelf.effective := by omega
    simp [determineShelf, this, ho]
  have hp : budgetPass s = none := by
    unfold budgetPass
    simp only [ho, Bool.false_eq_true, if_false]
    rcases hq with hq | hq
    · rw [hq]
    · cases s.shelf.queue with
      | nil => rfl
      | cons n ns => simp [admissible, hq]
  simp [evaluateBudget, budgetPasses, hd, hp]

theorem figure_le_peak (p : Profile) (st : PState) : p.figure st ≤ p.peak := by
  cases st <;> simp only [Profile.figure, Profile.peak] <;> omega

/-- The reservations sum to no more than the greatest figures. -/
theorem total_le_peaks (s : State) : s.total ≤ (allNodes.map fun n => (s.node n).sq.profile.peak).sum := by
  have h (n : NodeId) : s.reservation n ≤ (s.node n).sq.profile.peak := figure_le_peak _ _
  have := h 0; have := h 1; have := h 2; have := h 3
  simp only [State.total, allNodes, List.map_cons, List.map_nil, List.sum_cons, List.sum_nil]; omega

/-- An event that leaves the budget, the samples, the pacing and the profiles of an ample shelf leaves it calm. -/
theorem calm_of_ample {s u : State} (h : Ample s) (hc : u.shelf.cfg = s.shelf.cfg)
    (ha : u.shelf.sampleA = s.shelf.sampleA) (hb : u.shelf.sampleB = s.shelf.sampleB)
    (ho : u.shelf.isOver = s.shelf.isOver) (hs : u.shelf.staggerPassed = s.shelf.staggerPassed)
    (hq : s.shelf.staggerPassed = false ∨ (s.shelf.queue = [] → u.shelf.queue = []))
    (hp : ∀ n, (u.node n).sq.profile = (s.node n).sq.profile) : Calm u := by
  obtain ⟨h1, h2, h3⟩ := h
  have he : u.shelf.effective = s.shelf.effective := by simp only [Shelf.effective, Shelf.supplies, hc, ha, hb]
  have hk := total_le_peaks u
  simp only [hp] at hk
  refine ⟨ho.trans h1, by omega, ?_⟩
  rcases hq with hq | hq
  · exact Or.inr (hs.trans hq)
  · exact h3.imp hq (hs.trans ·)

/-- R36: no sequencer has reported, so no evaluation runs. -/
theorem budgetReported_false {old new : State} (h : ∀ n, (new.node n).sq.pst = (old.node n).sq.pst ∧
    ((old.node n).sq.order = none ∨ (new.node n).sq.order = (old.node n).sq.order)) : budgetReported old new = false := by
  simp only [budgetReported, List.any_eq_false]
  intro n _
  obtain ⟨h1, h2⟩ := h n
  rcases h2 with h2 | h2 <;> simp [h1, h2]

/-! ### The end of an event -/

/-- R36, R153: where the evaluation and the wait timers change nothing, the end of an event is its publication. -/
theorem finish_eq_publish {old new : State} (hb : budgetReported old new = false ∨ evaluateBudget new = new)
    (hw : WaitsSettled new) : finish old new = publish old new := by
  have h : (if budgetReported old new then evaluateBudget new else new) = new := by
    rcases hb with hb | hb
    · simp [hb]
    · rw [hb]; simp
  unfold finish; rw [h, settleWaits_of_settled hw]

/-- R172: publication changes the records' counts and shown values and nothing else. -/
theorem publish_becomes (old new : State) : Becomes (publish old new) new := by
  unfold Becomes publish; rfl

@[simp] theorem publish_mem (old new : State) : (publish old new).mem = new.mem := by unfold publish; rfl

theorem becomes_publish {old new u : State} (h : Becomes new u) : Becomes (publish old new) u := by
  unfold Becomes publish at *; exact h

theorem becomes_refl (s : State) : Becomes s s := rfl

/-- A block takes an event while the part runs. -/
theorem blockEvent_run {s : State} (hi : s.init = false) (f : State → State) : blockEvent s f = finish s (f s) := by
  unfold blockEvent; rw [hi]; rfl

/-- A block takes an event of a pin, with its level, while the part runs. -/
theorem pinEvent_run {s : State} (hi : s.init = false) (level f : State → State) :
    pinEvent s level f = finish s (f (level s)) := by
  unfold pinEvent; rw [hi]; rfl

/-- During a hold or initialization only the level changes. -/
theorem pinEvent_init {s : State} (hi : s.init = true) (level f : State → State) : pinEvent s level f = level s := by
  unfold pinEvent; rw [hi]; rfl

/-- An event whose effect `x` is `u`, with nothing left for the evaluation and the wait timers to change, does `u`. -/
theorem does_of_effect {c : Instr} {s x u : State} {runs : List (Nat × List Byte)} (he : exec c s = .next (finish s x))
    (hu : Becomes x u) (hm : Writes s x runs)
    (hb : (∀ n, (u.node n).sq.pst = (s.node n).sq.pst ∧
        ((s.node n).sq.order = none ∨ (u.node n).sq.order = (s.node n).sq.order)) ∨
      Calm u)
    (hw : WaitsSettled u) : Does c s u runs := by
  have hu' : { x with mem := u.mem, records := u.records } = u := hu
  have hn : x.nodes = u.nodes := by have := congrArg State.nodes hu'; exact this
  have hs : x.shelf = u.shelf := by have := congrArg State.shelf hu'; exact this
  have hf : x.frames = u.frames := by have := congrArg State.frames hu'; exact this
  have hx (n : NodeId) : x.node n = u.node n := by simp only [State.node, hn]
  have hp : finish s x = publish s x := by
    refine finish_eq_publish ?_ (waitsSettled_congr hw (fun n => by rw [hx]) hf)
    rcases hb with hb | hb
    · exact Or.inl (budgetReported_false fun n => by rw [hx]; exact hb n)
    · have hr : x.reservation = u.reservation := funext fun n => by simp only [State.reservation, hx]
      have ht : x.total = u.total := by simp only [State.total, hr]
      refine Or.inr (evaluateBudget_of_calm ?_)
      unfold Calm; rw [ht, hs]; exact hb
  exact ⟨_, he, by rw [hp]; exact becomes_publish hu, fun a => by rw [hp, publish_mem]; exact hm a⟩

end Sys2Proof.Machine
end

