-- ==== Sys2Proof/Laws/Ops.lean ====
section
/-! SUPPORT. What the shared operations leave, as one update of the state each; and the cases in which an operation has nothing to
do. -/

namespace Sys2Proof.Machine

variable (s : State) (n : NodeId)

/-! ### Attention bits, event flags, slots -/

/-- The pulse that setting a bit of ATTN gives (R175). -/
def risesWith (s : State) (b : AttnBit) : Bool :=
  decide (s.attn &&& bitByte b.bit = 0 ∧ s.attnEn &&& bitByte b.bit ≠ 0 ∧ s.ien = true ∧ s.imode = true)

theorem setAttn_eq (b : AttnBit) :
    setAttn s b = { s with attn := s.attn ||| bitByte b.bit, pulse := s.pulse || risesWith s b } := rfl

theorem nodeEvent_eq (e : NodeEvent) :
    nodeEvent s n e = { s with
      nodes := vmod s.nodes n fun d => { d with events := d.events ||| bitWord e.bit },
      attn := s.attn ||| bitByte (AttnBit.node n).bit, pulse := s.pulse || risesWith s (.node n) } := rfl

theorem shelfEvent_eq (e : ShelfEvent) :
    shelfEvent s e = { s with
      shelf := { s.shelf with events := s.shelf.events ||| bitWord e.bit },
      attn := s.attn ||| bitByte AttnBit.shelf.bit, pulse := s.pulse || risesWith s .shelf } := rfl

theorem refuseWrite_eq :
    refuseWrite s = { s with
      refused := bump 65535 s.refused,
      attn := s.attn ||| bitByte AttnBit.refused.bit, pulse := s.pulse || risesWith s .refused } := rfl

theorem slotDone_eq (k : SlotId) (r : Result) (detail : Word) :
    slotDone s k r detail = { s with
      mem := (s.mem.write (slotAddr k + 0x0C) (le32 r.code ++ leWord detail)).write (slotAddr k + 0x18) (leWord s.msclk),
      slots := vmod s.slots k fun c => { c with st := .done, binding := none },
      attn := s.attn ||| bitByte AttnBit.orderDone.bit, pulse := s.pulse || risesWith s .orderDone } := rfl

/-! ### State changes -/

/-- R1, R2, R5, R38, R39, R54: a change of node state, whole. -/
theorem changeState_eq (st : PState) (h : (s.node n).sq.pst ≠ st) :
    changeState s n st = (s.moved n st).modNode n fun d =>
      { d with
        sq := { d.sq.enter st s.msclk with
                admT := if st = .queued then startUnlessZero (d.sq.profile.admissionTimeoutS * 1000) else none },
        lv := d.lv.change d.sq.pst st s.msclk } := by
  have hd : (s.nodes.get n).sq.pst ≠ st := h
  unfold changeState
  rw [if_neg h]
  cases st <;>
    simp only [State.modNode, State.modShelf, State.modSq, dropWaiter, vmod_vmod, reduceCtorEq, if_true, if_false,
      or_self, or_true, true_or, State.moved] <;>
    congr 1

theorem changeState_same (h : (s.node n).sq.pst = st) : changeState s n st = s := by
  unfold changeState; rw [if_pos h]

/-! ### What a node without a media command, a transmit item or a layout leaves out -/

theorem resetCommand_none (h : (s.node n).port.cmd = none) : resetCommand s n = s := by
  unfold resetCommand; rw [h]

theorem portPowerReset_none (h : (s.node n).port.cmd = none) :
    portPowerReset s n = s.modNode n fun d => { d with port := d.port.resetValues } := by
  unfold portPowerReset; rw [resetCommand_none s n h]; rfl

theorem discardTx_nil (h : (s.node n).ch.txq = []) :
    discardTx s n = s.modNode n fun d => { d with ch := { d.ch with txq := [], tx := d.ch.tx.cut } } := by
  unfold discardTx; rw [h]; rfl

theorem marker_none (h : (s.node n).jr.layout = none) (kind : MarkerKind) (arg : Nat) : marker s n kind arg = s := by
  unfold marker; simp only [h]

theorem bootMarker_none (h : (s.node n).jr.layout = none) (kind : MarkerKind) : bootMarker s n kind = s :=
  marker_none s n h kind _

theorem freezeTail_none (h : (s.node n).jr.layout = none) (r : TailReason) : freezeTail s n r = s := by
  unfold freezeTail freezeOutcome; simp only [h]

theorem completeOrder_none (h : (s.node n).sq.order = none) (r : Result) (detail : Word) :
    completeOrder s n r detail = s := by
  unfold completeOrder; rw [h]

theorem retryWaits_nil (h : s.waits = []) : retryWaits s = s := by
  unfold retryWaits; rw [h]; rfl

theorem endCommand_none (h : (s.node n).port.cmd = none) (e : EndCode) : endCommand s n e = s := by
  unfold endCommand; rw [h]

theorem flushCheck_none (h : (s.node n).port.cmd = none) : flushCheck s n = s := by
  unfold flushCheck; rw [h]

/-- R8: the completion of an order that came from a slot. -/
theorem completeOrder_slot {o : PowerOrder} {k : SlotId} (h : (s.node n).sq.order = some o) (hk : o.src = .slot k)
    (r : Result) (detail : Word) :
    completeOrder s n r detail = slotDone (s.modNode n fun d => { d with sq := d.sq.closed o r detail s.msclk })
      k r (o.detail ||| detail) := by
  unfold completeOrder; rw [h]
  simp only [recordCompletion, deliver, hk, State.modSq, State.modNode, vmod_vmod, Sequencer.closed]

/-! ### A node's move: the queue and the waiting prefetches -/

@[simp] theorem State.moved_mem (st : PState) : (s.moved n st).mem = s.mem := rfl
@[simp] theorem State.moved_msclk (st : PState) : (s.moved n st).msclk = s.msclk := rfl
@[simp] theorem State.moved_init (st : PState) : (s.moved n st).init = s.init := rfl
@[simp] theorem State.moved_hold (st : PState) : (s.moved n st).hold = s.hold := rfl
@[simp] theorem State.moved_imode (st : PState) : (s.moved n st).imode = s.imode := rfl
@[simp] theorem State.moved_ien (st : PState) : (s.moved n st).ien = s.ien := rfl
@[simp] theorem State.moved_attn (st : PState) : (s.moved n st).attn = s.attn := rfl
@[simp] theorem State.moved_attnEn (st : PState) : (s.moved n st).attnEn = s.attnEn := rfl
@[simp] theorem State.moved_refused (st : PState) : (s.moved n st).refused = s.refused := rfl
@[simp] theorem State.moved_pulse (st : PState) : (s.moved n st).pulse = s.pulse := rfl
@[simp] theorem State.moved_supplyA (st : PState) : (s.moved n st).supplyA = s.supplyA := rfl
@[simp] theorem State.moved_supplyB (st : PState) : (s.moved n st).supplyB = s.supplyB := rfl
@[simp] theorem State.moved_nodes (st : PState) : (s.moved n st).nodes = s.nodes := rfl
@[simp] theorem State.moved_slots (st : PState) : (s.moved n st).slots = s.slots := rfl
@[simp] theorem State.moved_watch (st : PState) : (s.moved n st).watch = s.watch := rfl
@[simp] theorem State.moved_frames (st : PState) : (s.moved n st).frames = s.frames := rfl
@[simp] theorem State.moved_clean (st : PState) : (s.moved n st).clean = s.clean := rfl
@[simp] theorem State.moved_entries (st : PState) : (s.moved n st).entries = s.entries := rfl
@[simp] theorem State.moved_waitList (st : PState) : (s.moved n st).waitList = s.waitList := rfl
@[simp] theorem State.moved_records (st : PState) : (s.moved n st).records = s.records := rfl
@[simp] theorem State.moved_pending (st : PState) : (s.moved n st).pending = s.pending := rfl
@[simp] theorem State.moved_node (st : PState) (m : NodeId) : (s.moved n st).node m = s.node m := rfl

theorem cutPower_on {d : Node} (h : d.sq.pwrEn = true) :
    d.cutPower = { d with port := d.port.resetValues, ch := { d.ch with txq := [], tx := d.ch.tx.cut } } := by
  unfold Node.cutPower; rw [if_pos h]

theorem cutPower_off {d : Node} (h : d.sq.pwrEn = false) : d.cutPower = d := by
  unfold Node.cutPower; rw [if_neg (by simp [h])]

@[simp] theorem cutPower_sq (d : Node) : d.cutPower.sq = d.sq := by unfold Node.cutPower; split <;> rfl
@[simp] theorem cutPower_lv (d : Node) : d.cutPower.lv = d.lv := by unfold Node.cutPower; split <;> rfl
@[simp] theorem cutPower_jr (d : Node) : d.cutPower.jr = d.jr := by unfold Node.cutPower; split <;> rfl
@[simp] theorem cutPower_att (d : Node) : d.cutPower.att = d.att := by unfold Node.cutPower; split <;> rfl
@[simp] theorem cutPower_hist (d : Node) : d.cutPower.hist = d.hist := by unfold Node.cutPower; split <;> rfl
@[simp] theorem cutPower_events (d : Node) : d.cutPower.events = d.events := by unfold Node.cutPower; split <;> rfl
@[simp] theorem cutPower_ack (d : Node) : d.cutPower.ack = d.ack := by unfold Node.cutPower; split <;> rfl
@[simp] theorem cutPower_fenceLo (d : Node) : d.cutPower.fenceLo = d.fenceLo := by unfold Node.cutPower; split <;> rfl
@[simp] theorem cutPower_fenceHi (d : Node) : d.cutPower.fenceHi = d.fenceHi := by unfold Node.cutPower; split <;> rfl
@[simp] theorem cutPower_pins (d : Node) : d.cutPower.pins = d.pins := by unfold Node.cutPower; split <;> rfl
@[simp] theorem cutPower_cmd (d : Node) : d.cutPower.port.cmd = d.port.cmd := by unfold Node.cutPower; split <;> rfl
@[simp] theorem cutPower_waitT (d : Node) : d.cutPower.port.waitT = d.port.waitT := by unfold Node.cutPower; split <;> rfl

@[simp] theorem resetValues_cmd (p : Port) : p.resetValues.cmd = p.cmd := rfl
@[simp] theorem resetValues_waitT (p : Port) : p.resetValues.waitT = p.waitT := rfl

/-- A state in which PWR_EN is deasserted, other than QUEUED, which a node enters from such states only. -/
def PState.dark (st : PState) : Prop := st = .absent ∨ st = .off ∨ st = .dwell ∨ st = .fault

/-- R1, R3: a quiet node moves to a state in which PWR_EN is deasserted. -/
theorem leavePower_quiet {st : PState} (hs : st.dark) (h : (s.node n).sq.pst ≠ st) (hq : QuietNode s n) :
    leavePower s n st = (s.moved n st).modNode n fun d =>
      { d.cutPower with sq := d.sq.enter st s.msclk, lv := d.lv.change d.sq.pst st s.msclk } := by
  obtain ⟨hc, ht, hl⟩ := hq
  have e : changeState s n st = (s.moved n st).modNode n fun d =>
      { d with sq := d.sq.enter st s.msclk, lv := d.lv.change d.sq.pst st s.msclk } := by
    rw [changeState_eq s n st h]
    rcases hs with rfl | rfl | rfl | rfl <;>
      simp only [State.modNode, State.moved, reduceCtorEq, if_false] <;> congr 1
  unfold leavePower
  simp only [e]
  have hn (f : Node → Node) : ((s.moved n st).modNode n f).node n = f (s.node n) := by
    rw [State.modNode_node_self]; rfl
  by_cases hp : (s.node n).sq.pwrEn = true
  · rw [if_pos hp]
    have e2 : dropPower ((s.moved n st).modNode n fun d =>
        { d with sq := d.sq.enter st s.msclk, lv := d.lv.change d.sq.pst st s.msclk }) n =
        ((s.moved n st).modNode n fun d =>
          { d with sq := d.sq.enter st s.msclk, lv := d.lv.change d.sq.pst st s.msclk,
                   port := d.port.resetValues, ch := { d.ch with txq := [], tx := d.ch.tx.cut } }) := by
      unfold dropPower
      rw [portPowerReset_none _ _ (by rw [hn]; exact hc), discardTx_nil]
      · simp only [State.modNode, State.moved, vmod_vmod]
        split
        · rw [bootMarker_none]; simp only [State.node, vmod_get_self]; exact hl
        · rw [bootMarker_none]; simp only [State.node, vmod_get_self]; exact hl
        · rfl
      · simp only [State.modNode, State.moved, State.node, vmod_get_self, vmod_vmod]; exact ht
    rw [e2]
    unfold State.modNode; congr 1; apply vmod_congr
    have : ((s.moved n st).nodes.get n) = s.node n := rfl
    rw [this, cutPower_on hp]
  · rw [if_neg hp]
    unfold State.modNode; congr 1; apply vmod_congr
    have : ((s.moved n st).nodes.get n) = s.node n := rfl
    rw [this, cutPower_off (by simpa using hp)]

/-! ### Operations that store nothing in the RAM -/

@[simp] theorem setAttn_mem (b : AttnBit) : (setAttn s b).mem = s.mem := rfl

@[simp] theorem nodeEvent_mem (e : NodeEvent) : (nodeEvent s n e).mem = s.mem := rfl

@[simp] theorem shelfEvent_mem (e : ShelfEvent) : (shelfEvent s e).mem = s.mem := rfl

@[simp] theorem refuseWrite_mem : (refuseWrite s).mem = s.mem := rfl

@[simp] theorem dropWaiter_mem (w : Waiter) : (dropWaiter s w).mem = s.mem := rfl

@[simp] theorem setOrder_mem (c : PowerCode) (src : OrderSrc) (f : Byte) : (setOrder s n c src f).mem = s.mem := rfl

@[simp] theorem changeState_mem (st : PState) : (changeState s n st).mem = s.mem := by
  unfold changeState; dsimp only; split
  · rfl
  · cases st <;> rfl

@[simp] theorem stopWait_mem (f : FrameId) : (stopWait s n f).mem = s.mem := by
  unfold stopWait; repeat' split
  all_goals rfl

/-! ### Timers that have run out -/

/-- A timer has run out exactly when it runs and its duration has elapsed. -/
theorem ranOut_iff {t : Option Timer} : ranOut t = true ↔ ∃ x ∈ t, x.duration ≤ x.elapsed := by
  cases t <;> simp [ranOut]

@[simp] theorem ranOut_none : ranOut none = false := rfl

@[simp] theorem ranOut_start {d : Nat} : ranOut (some (Timer.start d)) = decide (d = 0) := by
  simp [ranOut, Timer.start]

/-- R5, R41, R55, R77: the expiry of a timer that has not run out does nothing. -/
theorem whenRanOut_false {t : Option Timer} (h : ranOut t = false) (f : State → State) : whenRanOut t f s = s := by
  simp [whenRanOut, h]

theorem whenRanOut_true {t : Option Timer} (h : ranOut t = true) (f : State → State) : whenRanOut t f s = f s := by
  simp [whenRanOut, h]

/-- R153, R157: what `stopWait` can do: nothing, or stop the wait timer of a command whose counter's frame this is. -/
theorem stopWait_cases (f : FrameId) :
    stopWait s n f = s ∨ (∃ c, (s.node n).port.cmd = some c ∧ s.counterFrame n c = some f) ∧
      stopWait s n f = s.modPort n fun p => { p with waitT := none } := by
  unfold stopWait
  cases h : (s.node n).port.cmd with
  | none => exact .inl rfl
  | some c =>
    by_cases hf : s.counterFrame n c = some f
    · exact .inr ⟨⟨c, rfl, hf⟩, by simp [hf]⟩
    · exact .inl (by simp [hf])

end Sys2Proof.Machine
end

