-- ==== Sys2Proof/Laws/Ram.lean ====
section
/-! SUPPORT. The exchange RAM: a read after a write, and the canonical form that every operation keeps. -/

namespace Sys2Proof.Machine

/-- No cell of a part that a filter leaves out is read. -/
theorem Memory.read_filter (m : Memory) (p : Nat → Bool) (x : Nat) (h : p x = true) :
    Memory.read (m.filter fun c => p c.1) x = m.read x := by
  induction m with
  | nil => rfl
  | cons c m ih =>
    by_cases hx : c.1 = x
    · subst hx; simp [h, Memory.read]
    · by_cases hp : p c.1 = true <;> simp [hp, Memory.read, hx, ih]

/-- An address that no cell of the first list has is read from the second. -/
theorem Memory.read_append (m k : Memory) (x : Nat) (h : ∀ c ∈ m, c.1 ≠ x) : Memory.read (m ++ k) x = k.read x := by
  induction m with
  | nil => rfl
  | cons c m ih =>
    have hc : c.1 ≠ x := h c (by simp)
    simp only [List.cons_append, Memory.read, if_neg hc]
    exact ih fun d hd => h d (by simp [hd])

/-- An address that no cell of the second list has is read from the first. -/
theorem Memory.read_append_left (m k : Memory) (x : Nat) (h : ∀ c ∈ k, c.1 ≠ x) : Memory.read (m ++ k) x = m.read x := by
  induction m with
  | nil =>
    rw [List.nil_append]
    have := Memory.read_append k [] x h
    simpa [Memory.read] using this
  | cons c m ih => by_cases hx : c.1 = x <;> simp [Memory.read, hx, ih]

theorem Memory.cells_bounds (a : Nat) (bs : List Byte) : ∀ c ∈ Memory.cells a bs, a ≤ c.1 ∧ c.1 < a + bs.length := by
  induction bs generalizing a with
  | nil => simp [Memory.cells]
  | cons b bs ih =>
    intro c hc
    simp only [Memory.cells] at hc
    simp only [List.length_cons]
    split at hc
    · have := ih (a + 1) c hc; omega
    · rcases List.mem_cons.mp hc with rfl | hc
      · simp
      · have := ih (a + 1) c hc; omega

theorem Memory.read_cells (a : Nat) (bs : List Byte) (x : Nat) (h : a ≤ x) : (Memory.cells a bs).read x = bs.getD (x - a) 0 := by
  induction bs generalizing a with
  | nil => simp [Memory.cells, Memory.read, Memory.unlisted]
  | cons b bs ih =>
    by_cases hx : x = a
    · subst hx
      simp only [Memory.cells]
      split
      · next hb =>
        have : ∀ c ∈ Memory.cells (x + 1) bs, c.1 ≠ x := fun c hc => by have := Memory.cells_bounds (x + 1) bs c hc; omega
        have h0 := Memory.read_append (Memory.cells (x + 1) bs) [] x this
        rw [List.append_nil] at h0
        rw [h0, hb]; simp [Memory.read, Memory.unlisted]
      · simp [Memory.read]
    · have e : x - a = (x - (a + 1)) + 1 := by omega
      have ih' := ih (a + 1) (by omega)
      simp only [Memory.cells]
      split
      · rw [ih', e]; simp
      · simp only [Memory.read, if_neg (fun h => hx h.symm : ¬ a = x)]; rw [ih', e]; simp

/-- R170: what a read finds after a write. -/
theorem Memory.read_write (m : Memory) (a : Nat) (bs : List Byte) (x : Nat) :
    (m.write a bs).read x = if a ≤ x ∧ x < a + bs.length then bs.getD (x - a) 0 else m.read x := by
  unfold Memory.write
  rw [List.append_assoc]
  by_cases h1 : x < a
  · rw [Memory.read_append_left]
    · rw [Memory.read_filter m (fun y => decide (y < a)) x (by simp [h1]), if_neg (by omega)]
    · intro c hc
      rcases List.mem_append.mp hc with hc | hc
      · have := Memory.cells_bounds a bs c hc; omega
      · have := (List.mem_filter.mp hc).2; simp at this; omega
  · rw [Memory.read_append _ _ _ (fun c hc => by have := (List.mem_filter.mp hc).2; simp at this; omega)]
    by_cases h2 : x < a + bs.length
    · rw [Memory.read_append_left, Memory.read_cells a bs x (by omega), if_pos (by omega)]
      intro c hc
      have := (List.mem_filter.mp hc).2; simp at this; omega
    · rw [Memory.read_append _ _ _ (fun c hc => by have := Memory.cells_bounds a bs c hc; omega), if_neg (by omega)]
      exact Memory.read_filter m (fun y => decide (a + bs.length ≤ y)) x (by simp; omega)

/-- A byte outside the bytes written reads as before. -/
theorem Memory.read_write_of_outside (m : Memory) (a : Nat) (bs : List Byte) (x : Nat) (h : x < a ∨ a + bs.length ≤ x) :
    (m.write a bs).read x = m.read x := by
  rw [Memory.read_write, if_neg (by omega)]

/-- A byte of the bytes written. -/
theorem Memory.read_write_of_inside (m : Memory) (a : Nat) (bs : List Byte) (x : Nat) (h : a ≤ x) (h' : x < a + bs.length) :
    (m.write a bs).read x = bs.getD (x - a) 0 := by
  rw [Memory.read_write, if_pos ⟨h, h'⟩]

theorem Memory.read_clear (m : Memory) (lo hi x : Nat) :
    (m.clear lo hi).read x = if lo ≤ x ∧ x < hi then Memory.unlisted else m.read x := by
  unfold Memory.clear
  split
  · next h =>
    have hx : ∀ c ∈ m.filter (fun c => decide (c.1 < lo) || decide (hi ≤ c.1)), c.1 ≠ x := fun c hc => by
      have := (List.mem_filter.mp hc).2; simp at this; omega
    have h0 := Memory.read_append _ [] x hx
    rw [List.append_nil] at h0
    rw [h0]; rfl
  · next h => exact Memory.read_filter m (fun y => decide (y < lo) || decide (hi ≤ y)) x (by simp; omega)

/-! ### The canonical form -/

theorem Memory.wf_filter {m : Memory} (h : m.wf) (p : Host.Cell → Bool) : Memory.wf (m.filter p) :=
  ⟨h.1.filter p, fun c hc => h.2 c (List.mem_filter.mp hc).1⟩

theorem Memory.wf_cells (a : Nat) (bs : List Byte) : (Memory.cells a bs).wf := by
  induction bs generalizing a with
  | nil => exact ⟨List.Pairwise.nil, by simp [Memory.cells]⟩
  | cons b bs ih =>
    simp only [Memory.cells]
    split
    · exact ih (a + 1)
    · next hb =>
      refine ⟨List.pairwise_cons.mpr ⟨fun c hc => ?_, (ih (a + 1)).1⟩, fun c hc => ?_⟩
      · have := Memory.cells_bounds (a + 1) bs c hc; simp; omega
      · rcases List.mem_cons.mp hc with rfl | hc
        · exact hb
        · exact (ih (a + 1)).2 c hc

/-- Two canonical lists of which the first lies below the second make one. -/
theorem Memory.wf_append {m k : Memory} (hm : m.wf) (hk : k.wf) (h : ∀ c ∈ m, ∀ d ∈ k, c.1 < d.1) : Memory.wf (m ++ k) :=
  ⟨List.pairwise_append.mpr ⟨hm.1, hk.1, h⟩, fun c hc => (List.mem_append.mp hc).elim (hm.2 c) (hk.2 c)⟩

/-- A write keeps the canonical form. -/
theorem Memory.wf_write {m : Memory} (h : m.wf) (a : Nat) (bs : List Byte) : (m.write a bs).wf := by
  unfold Memory.write
  refine Memory.wf_append (Memory.wf_append (Memory.wf_filter h _) (Memory.wf_cells a bs) fun c hc d hd => ?_) (Memory.wf_filter h _) fun c hc d hd => ?_
  · have h1 := (List.mem_filter.mp hc).2; have h2 := Memory.cells_bounds a bs d hd; simp at h1; omega
  · have h2 := (List.mem_filter.mp hd).2
    simp at h2
    rcases List.mem_append.mp hc with hc | hc
    · have h1 := (List.mem_filter.mp hc).2; simp at h1; omega
    · have h1 := Memory.cells_bounds a bs c hc; omega

/-- A clear keeps the canonical form. -/
theorem Memory.wf_clear {m : Memory} (h : m.wf) (lo hi : Nat) : (m.clear lo hi).wf := Memory.wf_filter h _

theorem Memory.readRun_length (m : Memory) (a n : Nat) : (m.readRun a n).length = n := by simp [Memory.readRun]

end Sys2Proof.Machine
end

