-- ==== Sys2Proof/Laws/Orders.lean ====
section
/-! SUPPORT. The post of an order: what the slot holds when its unit acts, and what its completion leaves. -/

namespace Sys2Proof.Machine

theorem leWord_length (w : Word) : (leWord w).length = 4 := rfl

theorem headerWord_length (a b c : Byte) : (headerWord a b c).length = 4 := rfl

/-- A run of bytes that no write touches reads as before. -/
theorem readRun_write_of_outside (m : Memory) (a : Nat) (bs : List Byte) (b n : Nat) (h : b + n ≤ a ∨ a + bs.length ≤ b) :
    (m.write a bs).readRun b n = m.readRun b n := by
  unfold Memory.readRun
  apply List.map_congr_left
  intro i hi
  have := List.mem_range.mp hi
  exact Memory.read_write_of_outside _ _ _ _ (by omega)

/-- A run of bytes just written reads as written. -/
theorem readRun_write_self (m : Memory) (a : Nat) (bs : List Byte) (n : Nat) (h : n ≤ bs.length) :
    (m.write a bs).readRun a n = bs.take n := by
  apply List.ext_getElem
  · simp [Memory.readRun]; omega
  · intro i h1 h2
    simp only [Memory.readRun_length] at h1
    simp only [Memory.readRun, List.getElem_map, List.getElem_range, List.getElem_take]
    rw [Memory.read_write_of_inside _ _ _ _ (by omega) (by omega)]
    have h3 : i < bs.length := by omega
    simp [List.getD_eq_getElem?_getD, h3]

/-- The checks of an order look at the nodes, the shelf and the watch table only. -/
theorem checkOrder_congr {s t : State} (hn : t.nodes = s.nodes) (hs : t.shelf = s.shelf) (hw : t.watch = s.watch)
    (c : SlotCopy) : checkOrder t c = checkOrder s c := by
  cases s; cases t; cases hn; cases hs; cases hw; rfl

/-- The state in which the checks of a posted order are made: its slot copied, its time of acceptance written (R161). -/
def afterPost (s : State) (k : SlotId) (code target flags : Byte) (c : SlotCopy) : State :=
  ((s.store (slotAddr k + 4) (headerWord code target flags)).store (slotAddr k + 0x14) (leWord s.msclk)).modSlot k
    fun _ => c

/-- R161: the post event, by the answer of the checks. -/
theorem postOrder_eq {s : State} {k : SlotId} (code target flags : Byte) (hi : s.init = false)
    (hk : (s.slot k).st ≠ .accepted) :
    postOrder s k code target flags =
      match checkOrder s (postedCopy s k code target flags (s.slot k).st (s.slot k).binding) with
      | .error r => slotDone
          (afterPost s k code target flags (postedCopy s k code target flags (s.slot k).st (s.slot k).binding)) k
          r.result r.detail
      | .ok a => runAction (afterPost s k code target flags (postedCopy s k code target flags .accepted a.binding)) k a := by
  have e : copySlot (s.store (slotAddr k + 4) (headerWord code target flags)) k =
      postedCopy s k code target flags (s.slot k).st (s.slot k).binding := by
    simp only [copySlot, postedCopy, slotParams, State.store_mem]
    rw [readRun_write_self _ _ _ _ (by simp [headerWord]),
      readRun_write_of_outside _ _ _ _ _ (by simp [headerWord])]
    rfl
  unfold postOrder postSlot
  simp only [hi, Bool.false_or, decide_eq_true_eq, if_neg hk, e]
  rw [checkOrder_congr (s := s)]
  · generalize checkOrder s _ = v
    cases v with
    | error r => rfl
    | ok a => simp only [acceptOrder, afterPost, State.modSlot, State.store, vmod_vmod]; rfl
  · rfl
  · rfl
  · rfl

theorem targetOf_nodeByte (n : NodeId) : targetOf (nodeByte n) = some (.node n) := by
  revert n; decide

theorem targetOf_shelfByte : targetOf shelfByte = some .shelf := rfl

theorem writes_post {s t : State} {k : SlotId} {code target flags : Byte} {c : SlotCopy}
    (h : t.mem = (afterPost s k code target flags c).mem) : Writes s t (postRuns s k code target flags) := by
  intro x
  rw [h]
  simp only [afterPost, State.modSlot_mem, State.store_mem, Memory.read_write, postRuns, byteAfter, List.foldl]
  rfl

/-- Runs stored after others. -/
theorem writes_append {s t u : State} {r1 r2 : List (Nat × List Byte)} (h1 : Writes s t r1) (h2 : Writes t u r2) :
    Writes s u (r1 ++ r2) := by
  intro x
  rw [h2 x, h1 x]; simp only [byteAfter, List.foldl_append]

theorem writes_store (s : State) (a : Nat) (bs : List Byte) : Writes s (s.store a bs) [(a, bs)] := by
  intro x
  simp only [State.store_mem, Memory.read_write, byteAfter, List.foldl]

theorem writes_nil {s t : State} (h : t.mem = s.mem) : Writes s t [] := by
  intro x; rw [h]; rfl

theorem writes_slotDone (s : State) (k : SlotId) (r : Result) (detail : Word) :
    Writes s (slotDone s k r detail) (doneRuns s k r detail) := by
  intro x
  simp only [slotDone, setAttn, State.modSlot_mem, State.store_mem, Memory.read_write, byteAfter, doneRuns, List.foldl]
  rfl

end Sys2Proof.Machine
end

