-- ==== Sys2Proof/Tests/Slice0.lean ====
section
/-! SUPPORT. Tests: what the specification works out by hand, and, for every statement with hypotheses, a state and operands that meet
them. -/

open Sys2Proof Sys2Proof.Machine

namespace Sys2Proof.Tests

/-! ### Small states -/

/-- The state after reset with one bay changed. -/
def bay (n : NodeId) (f : Node → Node) : State := State.reset.modNode n f

/-- The stagger interval lasts. -/
def stagger (s : State) : State := s.modShelf fun h => { h with admitted := true, staggerT := some { duration := 100, elapsed := 0 } }

/-- A timer that has run out. -/
def spent : Timer := { duration := 100, elapsed := 100 }

/-- A timer one millisecond before it has run out. -/
def lasting : Timer := { duration := 100, elapsed := 99 }

/-- A power order in progress from slot 1. -/
def order (c : PowerCode) (flags : Byte) : PowerOrder := { code := c, src := .slot 1, flags := flags, since := 0, detail := 0 }

/-- A ring journal: eight body slots and one tail slot. -/
def ring : Layout := { base := 0, pinned := 0, body := 8, tail := 1, lossless := false }

/-- 8N1. -/
def plainFrame : FrameFormat := { dataBits := 8, parity := .none, stopBits := 1 }

/-- The break item of an order in slot 1. -/
def pulse : TxItem := { payload := .brk 10, src := .slot 1 }

def heldLine : Line :=
  { boot := 0, time := 0, flags := { cont := false, partialEnd := false, brk := false, framing := false }, lost := 0,
    text := [0x41] }

def budget : BudgetCfg :=
  { bcfg := 20000, headroom := 20000, f2 := 100, f1 := 100, f0 := 0, staggerMs := 60000, shedEnable := true }

def liveness : LivenessSettings := { hbWindow := 600000, silWindow := 1000, action := .cycle, limit := 15 }

/-- A NOTE entry for node 1, matching "]". -/
def note : WatchFields :=
  { nodeSet := 2, pattern := [(0x5D, false)], fold := false, action := .note, arm := .every, holdoffMs := 0 }

def smallDisk : AttachFigures :=
  { capacity := 1, readOnly := false, quota := 8, fetchTimeoutMs := 100, flushAgeMs := 100, dirtyLimit := 1,
    model := List.replicate 24 0x20, serial := List.replicate 16 0x20 }

/-- A command in progress with one block, its counter at an offset. -/
def window (k : MediaCmd) (counter : Nat) : PortCmd := { kind := k, first := 0, count := 1, counter := counter, moved := false }

/-! ### Well-formed commands: an ill-formed term for each check -/

theorem test_unknown_order_with_known_code_is_ill_formed : (Instr.unknownOrder 0 0x07 0 0).WellFormed = false := by decide

theorem test_bad_command_with_known_word_is_ill_formed : (Instr.badCommand 0 4).WellFormed = false := by decide

theorem test_write_with_no_lane_is_ill_formed : (Instr.exchangeWrite 5 0 0).WellFormed = false := by decide

theorem test_register_write_off_a_word_is_ill_formed :
    (Instr.registerWrite .management 0x0D 0).WellFormed = false ∧ (Instr.registerWrite (.node 1) 0x09 0).WellFormed = false := by
  decide

theorem test_register_write_beyond_the_port_is_ill_formed : (Instr.registerWrite (.node 1) 0x20 0).WellFormed = false := by decide

/-- No row of the table gives bits: no word spells a command. -/
theorem test_no_word_spells_a_command : decodeTableWord 0 0 = none ∧ (State.reset.withFetchWord 32 5).pending = [] := by decide

/-! ### Running one command -/

/-- The state a command leaves; the state after reset where it stops. -/
def after (c : Instr) (s : State) : State :=
  match exec c s with
  | .next t => t
  | .fault _ | .refused _ => State.reset

/-- Bytes in the parameter block of a slot. -/
def params (k : SlotId) (p : List Byte) (s : State) : State := s.store (slotAddr k + 0x38) p

/-- The result code in a slot. -/
def resultOf (s : State) (k : SlotId) : Byte := s.mem.read (slotAddr k + 0x0C)

/-! ### Power orders (sections 1.11 to 1.13) -/

/-- Section 1.11: queued and admitted in one event; PWR_EN on, RST asserted, no prefetch without media. -/
theorem test_power_on_of_admissible_node_enters_inrush :
    let t := after (.powerOn 4 1 1) (bay 1 fun d => { d with sq.pst := .off, sq.profile.inrushMs := 2000, sq.boot := 7 })
    (t.node 1).sq.pst = .inrush ∧ (t.node 1).sq.pwrEn = true ∧ (t.node 1).sq.rst = true ∧
      (t.node 1).sq.inrushT = some (Timer.start 2000) ∧ t.shelf.queue = [] ∧ (t.slot 4).st = .accepted := by decide

/-- Section 1.12: a stopping node, its POWER_OFF from slot 1 in progress. -/
def stopping : State := bay 2 fun d => { d with sq.pst := .stopping, sq.order := some (order .powerOff 0) }

/-- Section 1.12, row 1000: NMI is refused BUSY (4). -/
theorem test_nmi_at_busy_node_is_busy : resultOf (after (.nmi 6 2 0) stopping) 6 = 4 := by decide

/-- Section 1.12, row 30000: RESET is refused INCORRECT_STATE (5) and supersedes nothing. -/
theorem test_reset_at_stopping_node_supersedes_nothing :
    let t := after (.reset 7 2 0) stopping
    resultOf t 7 = 5 ∧ (t.node 2).sq.order = some (order .powerOff 0) := by decide

/-- Section 1.12, row 45000: CYCLE supersedes (8) the POWER_OFF and turns the node off into DWELL. -/
theorem test_cycle_supersedes_power_off :
    let t := after (.cycle 8 2 0) stopping
    resultOf t 1 = 8 ∧ (t.node 2).sq.pst = .dwell ∧ (t.node 2).sq.dwellT = some (Timer.start 5000) ∧
      (t.slot 8).st = .accepted := by decide

/-- Section 1.12: SLP_OFF taken first completes the POWER_OFF, and the CYCLE is then refused INCORRECT_STATE (5). -/
theorem test_sleep_off_before_cycle :
    let t := after (.slpOffRise 2 true) stopping
    resultOf t 1 = 0 ∧ (t.slot 1).st = .done ∧ (t.node 2).sq.pst = .off ∧ resultOf (after (.cycle 8 2 0) t) 8 = 5 := by decide

/-- R7: every power order at an absent node is refused NODE_ABSENT (3). -/
theorem test_force_off_at_absent_node : resultOf (after (.forceOff 0 3 0) State.reset) 0 = 3 := by decide

/-- Section 1.11, last paragraph: a fall of PGOOD in GATED gives FAULT, and the slot FAULTED (10) with PGOOD_LOST (0x20). -/
theorem test_power_good_lost_in_gated :
    let t := after (.pgoodFall 1) (bay 1 fun d => { d with sq.pst := .gated, sq.order := some (order .powerOn 1) })
    (t.node 1).sq.pst = .fault ∧ (t.node 1).sq.faultReason = .pgoodLost ∧ resultOf t 1 = 10 ∧
      t.mem.read (slotAddr 1 + 0x10) = 0x20 := by decide

/-- Section 1.11, row 54750: BOOTING takes the next boot number and 300000 ms of boot timer. -/
theorem test_reset_timer_begins_boot :
    let t := after (.resetTimerExpiry 1)
      (bay 1 fun d => { d with sq.pst := .gated, sq.resetT := some spent, sq.boot := 7, sq.profile.bootTimeoutS := 300 })
    (t.node 1).sq.pst = .booting ∧ (t.node 1).sq.boot = 8 ∧ (t.node 1).sq.bootT = some (Timer.start 300000) ∧
      (t.node 1).sq.rst = false := by decide

/-- R5: a FORCE_OFF stops the inrush timer, whose expiry is due, and a POWER_ON starts it anew: the expiry behind them does not end the
new run. -/
theorem test_stopped_inrush_timer_does_not_expire :
    let s := bay 1 fun d => { d with sq.pst := .inrush, sq.inrushT := some spent, sq.pgSeen := true, sq.profile.inrushMs := 2000 }
    let t := after (.inrushTimerExpiry 1) (after (.powerOn 4 1 1) (after (.forceOff 3 1 0) s))
    (t.node 1).sq.pst = .inrush ∧ (t.node 1).sq.inrushT = some (Timer.start 2000) ∧
      ((after (.inrushTimerExpiry 1) s).node 1).sq.pst = .gated := by decide

/-! ### The shelf budget (sections 2.5.3 and 2.9) -/

/-- Section 2.3: the limit saturates at 0; the floor of 329.67 is 329. -/
theorem test_effective_budget_and_limit :
    ({ Shelf.full true false with cfg.bcfg := 999, cfg.f1 := 33 } : Shelf).effective = 329 ∧
      ({ Shelf.full true false with cfg.bcfg := 2400, cfg.f1 := 55, cfg.headroom := 1500 } : Shelf).limit = 0 := by decide

/-- Section 2.5.3: node 1 heads the queue with node 2 behind it. -/
def blocked : State :=
  let s := State.reset.modNode 0 fun d => { d with sq.pst := .running, sq.profile.standbyW := 20, sq.profile.steadyW := 500 }
  let s := s.modNode 1 fun d =>
    { d with sq.pst := .queued, sq.admT := some spent, sq.profile.standbyW := 10, sq.profile.inrushW := 600 }
  let s := s.modNode 2 fun d => { d with sq.pst := .queued, sq.profile.standbyW := 10, sq.profile.inrushW := 300 }
  { s with supplyA := true, supplyB := true }.modShelf fun h =>
    { h with cfg.bcfg := 1000, sampleA := true, sampleB := true, queue := [1, 2] }

/-- Section 2.5.3, row 5000: node 1 goes to OFF, node 2 is admitted, and T is 810. -/
theorem test_admission_timer_unblocks_the_queue :
    let t := after (.admissionTimerExpiry 1) blocked
    blocked.total = 520 ∧ (t.node 1).sq.pst = .off ∧ (t.node 2).sq.pst = .inrush ∧ t.shelf.queue = [] ∧ t.total = 810 := by decide

/-- Section 2.5.3, last part: node 0 goes to OFF, and both queued nodes are admitted in the same event; T is 920. -/
theorem test_freed_budget_admits_both : (after (.slpOffRise 0 true) blocked).total = 920 := by decide

/-- R41: the stagger timer of node 1's admission has run out when a BUDGET_SET, taken first, lengthens the interval: the expiry
behind it admits no one. A shorter interval, already elapsed, admits node 2 within the BUDGET_SET. -/
theorem test_budget_set_retimes_stagger :
    let s := (blocked.modNode 1 fun d => { d with sq.pst := .off }).modShelf fun h =>
      { h with queue := [2], admitted := true, staggerT := some spent, cfg.staggerMs := 100 }
    let late := after .staggerTimerExpiry (installBudget s { s.shelf.cfg with staggerMs := 500 })
    let early := installBudget s { s.shelf.cfg with staggerMs := 50 }
    ((after .staggerTimerExpiry s).node 2).sq.pst = .inrush ∧ (late.node 2).sq.pst = .queued ∧
      late.shelf.staggerT = some { duration := 500, elapsed := 100 } ∧ (early.node 2).sq.pst = .inrush := by decide

/-- Section 2.9, row 9500: with one supply left B_eff is 1320; of ranks 2, 3, 1 and 0 the node of rank 3 is shed. -/
theorem test_loss_of_supply_sheds_highest_rank :
    let s := State.reset.modNode 0 fun d => { d with sq.pst := .running, sq.profile.steadyW := 820, sq.profile.shedRank := 2 }
    let s := s.modNode 1 fun d => { d with sq.pst := .running, sq.profile.steadyW := 880, sq.profile.shedRank := 3 }
    let s := s.modNode 3 fun d => { d with sq.pst := .running, sq.profile.steadyW := 400 }
    let s := { s with supplyA := true, supplyB := true }.modShelf fun h =>
      { h with cfg.bcfg := 2400, cfg.f1 := 55, cfg.shedEnable := true, sampleA := true, sampleB := true }
    let t := after (.supplyPinChange .b) s
    t.shelf.isOver = true ∧ (t.node 1).sq.pst = .stopping ∧ (t.shelf.shed.map (·.node)) = some 1 ∧ (t.node 0).sq.pst = .running := by
  decide

/-! ### Liveness (section 3.8) -/

/-- Section 3.8: a running node with a heartbeat check, an action RESET and a limit of 2. -/
def watched (count : Nat) : State :=
  bay 0 fun d => { d with sq.pst := .running, sq.boot := 20, lv.hbWindow := 30000, lv.action := .reset, lv.limit := 2,
                          lv.recovery := count, lv.hbAge := 30000 }

/-- Section 3.8, row 35000: the hang's RESET is accepted, the count is 1, and the flag is clear on leaving RUNNING. -/
theorem test_hang_resets_node :
    let t := after (.heartbeatWindowExpiry 0) (watched 0)
    (t.node 0).sq.pst = .gated ∧ (t.node 0).lv.recovery = 1 ∧ (t.node 0).lv.hung = false ∧
      (t.node 0).events = bitWord NodeEvent.hung.bit := by decide

/-- Section 3.8, row 95400: at the limit the node stays RUNNING and hung, and RECOVERY_EXHAUSTED is set. -/
theorem test_exhausted_recovery_issues_nothing :
    let t := after (.heartbeatWindowExpiry 0) (watched 2)
    (t.node 0).sq.pst = .running ∧ (t.node 0).lv.hung = true ∧ (t.node 0).lv.recovery = 2 ∧
      (t.node 0).events = bitWord NodeEvent.hung.bit ||| bitWord NodeEvent.recoveryExhausted.bit := by decide

/-- R8, R9, R57: a RESET hang action that supersedes an NMI of an earlier hang action shows its own ACCEPTED. -/
theorem test_hang_reset_supersedes_hang_nmi :
    let s := (watched 0).modNode 0 fun d => { d with
      sq.order := some { order .nmi 0 with src := .hang }, lv.lastHang := some { action := .nmi, time := 0, result := .accepted } }
    let l := ((after (.heartbeatWindowExpiry 0) s).node 0).lv.lastHang
    l.map (·.result) = some .accepted ∧ l.map (·.action) = some .reset := by decide

/-- Section 3.8, row 5000: a heartbeat moves the origin. -/
theorem test_heartbeat_moves_origin :
    ((after (.hbeatRise 0 true) { watched 0 with msclk := 5000 }).node 0).lv.hbOrigin = 5000 := by decide

/-! ### Console channels (sections 4.2.1 and 4.8) -/

/-- Section 4.2.1. -/
theorem test_baud_divisors :
    [300, 9600, 115200, 230400, 250000, 1500000, 3000000].map baudDivisor = [10000, 313, 26, 13, 12, 2, 1] ∧
      [300, 9600, 115200, 460800, 921600, 2500000].map baudError = [0, 1597, 1602, 69940, 85069, 200000] := by decide

/-- Section 4.2.1: 460800 baud is refused INVALID_PARAMETER (2). -/
theorem test_unreachable_rate_is_refused :
    resultOf (after (.uartSet 0 0 0) (params 0 (le32 460800 ++ [8, 0, 1, 0]) State.reset)) 0 = 2 := by decide

/-- Section 4.8, row 1400: a fifth item is refused BUSY (4). -/
theorem test_full_transmit_queue_is_busy :
    resultOf (after (.inject 6 2 0) (params 6 [1, 5] (bay 2 fun d =>
      { d with sq.pst := .running, ch.tx := .string, ch.txq := [pulse, pulse, pulse, pulse] }))) 6 = 4 := by decide

/-- Section 4.8, row 1500: the break's order completes, and the guard runs before the next item. -/
theorem test_break_end_runs_guard :
    let t := after (.breakItemEnd 2) (bay 2 fun d =>
      { d with sq.pst := .running, ch.tx := .brk spent, ch.txq := [pulse, { pulse with payload := .string [0x79, 0x0D] }] })
    (t.node 2).ch.tx = .guard ∧ (t.node 2).ch.txq.length = 1 ∧ (t.slot 1).st = .done ∧ (t.node 2).ch.txd = .high := by decide

/-- Section 4.8, row 1504: the fall of PGOOD empties the queue and aborts (11) the order. -/
theorem test_power_loss_aborts_items :
    let t := after (.pgoodFall 2) (bay 2 fun d => { d with sq.pst := .running, ch.tx := .string, ch.txq := [pulse] })
    (t.node 2).ch.txq = [] ∧ (t.node 2).ch.tx = .idle ∧ resultOf t 1 = 11 := by decide

/-- R72: a frame of zeros whose stop bit is low is a break, not a byte. -/
theorem test_low_frame_is_a_break :
    let t := after (.rxDataByte 0 0 false false false) (bay 0 fun d => { d with ch.framer := .frame plainFrame })
    (t.node 0).ch.breaks = 1 ∧ (t.node 0).ch.rxBytes = 0 ∧ (t.node 0).ch.framer = .markWait := by decide

/-! ### The journal (sections 5.3.1 and 5.10) -/

/-- A node with a ring journal, a text in its assembler and the framer in a frame. -/
def typing (text : List Byte) (cr : Bool) : State :=
  bay 3 fun d => { d with jr.layout := some ring, jr.asm.text := text, jr.asm.cr := cr, ch.framer := .frame plainFrame }

/-- Section 5.3.1: "a" CR CR LF is written as "a" CR, length 2: the last CR is discarded. -/
theorem test_line_feed_discards_held_cr :
    let t := after (.rxDataByte 3 0x0A false true true) (typing [0x61, 0x0D] true)
    t.mem.read 0x10006 = 2 ∧ t.mem.read 0x10010 = 0x61 ∧ (t.node 3).jr.bodyCount = 1 := by decide

/-- Section 5.3.1: a CR after a held CR stores the first and is held. -/
theorem test_second_cr_releases_first :
    let a := ((after (.rxDataByte 3 0x0D false true true) (typing [0x61] true)).node 3).jr.asm
    a.text = [0x61, 0x0D] ∧ a.cr = true := by decide

/-- Section 5.3.1: the 112th byte writes the line, and CONT is due. -/
theorem test_full_line_is_split :
    let t := after (.rxDataByte 3 0x78 false true true) (typing (List.replicate 111 0x78) false)
    t.mem.read 0x10006 = 112 ∧ (t.node 3).jr.asm.text = [] ∧ (t.node 3).jr.asm.contDue = true := by decide +kernel

/-- Section 5.3.1: the LF behind a split line of 112 bytes clears CONT-due and writes nothing. -/
theorem test_line_feed_after_split :
    let s := (typing [] false).modNode 3 fun d => { d with jr.asm.contDue := true }
    let t := after (.rxDataByte 3 0x0A false true true) s
    (t.node 3).jr.bodyCount = 0 ∧ (t.node 3).jr.asm.contDue = false := by decide

/-- Section 5.3.1: a break at an empty assembler writes a record of length 0 with BREAK. -/
theorem test_break_writes_empty_record :
    let t := after (.rxBreak 3) (typing [] false)
    t.mem.read 0x10006 = 0 ∧ t.mem.read 0x10007 = 4 ∧ (t.node 3).jr.bodyCount = 1 := by decide

/-- Section 5.10: the layout base 1024, P 2, B 8; the pinned line stands in slot 1024, with seq 3. -/
theorem test_pinned_line_goes_to_pinned_region :
    let s := bay 3 fun d => { d with jr.layout := some { base := 1024, pinned := 2, body := 8, tail := 4, lossless := true },
                                     jr.lastSeq := 2, jr.bodyCount := 2, jr.asm.text := [0x66], ch.idleT := some spent }
    let t := after (.idleFlushTimerExpiry 3) s
    t.mem.read (0x10000 + 1024 * 128) = 3 ∧ (t.node 3).jr.pinnedCount = 1 ∧ (t.node 3).jr.bodyCount = 2 := by decide

/-- R77: a byte taken first restarts the timer, and the expiry behind it flushes nothing. -/
theorem test_byte_before_idle_expiry :
    let s := (typing [0x61] false).modNode 3 fun d => { d with ch.idleT := some spent }
    ((after (.idleFlushTimerExpiry 3) (after (.rxDataByte 3 0x62 false true true) s)).node 3).jr.asm.text = [0x61, 0x62] := by decide

/-- R97: a line of 112 bytes that a break ended while it was blocked sets CONT-due when it is written. -/
theorem test_line_ended_while_blocked_sets_cont_due :
    let s := bay 3 fun d => { d with
      jr.layout := some { ring with lossless := true }, jr.bodyCount := 8, jr.pendingLine := some heldLine,
      jr.asm.text := List.replicate 112 0x78,
      jr.asm.blocked := .ended { heldLine with text := List.replicate 112 0x78, flags.brk := true }, fenceLo := 8 }
    let t := after (.fenceHiWrite 3 0) s
    (t.node 3).jr.bodyCount = 10 ∧ (t.node 3).jr.asm.contDue = true := by decide +kernel

/-- R96: in lossless mode a body line with no room becomes the pending line. -/
theorem test_line_without_room_is_pending :
    let s := bay 3 fun d => { d with jr.layout := some { ring with lossless := true }, jr.bodyCount := 8,
                                     jr.asm.text := [0x66], ch.idleT := some spent }
    let t := after (.idleFlushTimerExpiry 3) s
    ((t.node 3).jr.pendingLine.map (·.text)) = some [0x66] ∧ (t.node 3).jr.bodyCount = 8 := by decide

/-- R95: a written fence beyond body_count is clamped to it. -/
theorem test_fence_is_clamped :
    ((after (.fenceHiWrite 3 1) (bay 3 fun d => { d with jr.bodyCount := 5 })).node 3).jr.fence = 5 := by decide

/-! ### The watch table (sections 6.8 and 6.9) -/

/-- Section 6.8: entries 2 (NOTE) and 5 (MARK, holdoff 1000) for "aa" at node 1, whose history holds "a". -/
def doubleA : State :=
  let f : WatchFields := { note with pattern := [(0x61, false), (0x61, false)] }
  let s := bay 1 fun d => { d with hist := [0x61], ch.framer := .frame plainFrame }
  let s := s.modWatch 2 fun e => { e with valid := true, fields := some f }
  let s := s.modWatch 5 fun e => { e with valid := true, fields := some { f with action := .mark, holdoffMs := 1000 } }
  (s.modPair 2 1 fun p => { p with armed := true }).modPair 5 1 fun p => { p with armed := true }

/-- Section 6.8, row 101: both entries fire. -/
theorem test_overlapping_patterns_fire :
    let t := after (.rxDataByte 1 0x61 false true true) doubleA
    (t.pair 2 1).fireCount = 1 ∧ (t.pair 5 1).fireCount = 1 ∧ (t.pair 5 1).holdoffT = some (Timer.start 1000) := by decide

/-- Section 6.8, row 102: within its holdoff entry 5 is suppressed, and entry 2 fires again. -/
theorem test_holdoff_suppresses :
    let s := doubleA.modPair 5 1 fun p => { p with holdoffT := some (Timer.start 1000), fireCount := 1 }
    let t := after (.rxDataByte 1 0x61 false true true) s
    (t.pair 2 1).fireCount = 1 ∧ (t.pair 5 1).fireCount = 1 ∧ (t.pair 5 1).suppressed = 1 := by decide

/-! ### The Media Port and frames (sections 7.9 and 8.8) -/

/-- Section 7.9: an attached node. -/
def driven (f : Port → Port) : State :=
  bay 1 fun d => { d with att.st := .attached, att.fig := { smallDisk with capacity := 1000000 }, port := f d.port }

/-- Section 7.9, step 1: CHANGED refuses the first command and is cleared. -/
theorem test_changed_refuses_first_command :
    let p := ((after (.identify 1) (driven fun p => { p with changed := true })).node 1).port
    p.err = .changed ∧ p.changed = false ∧ p.done = true ∧ p.error = true := by decide

/-- Section 7.9, step 6: 999,990 + 16 is beyond the capacity. -/
theorem test_read_beyond_capacity :
    ((after (.read 1) (driven fun p => { p with block := 999990, count := 16 })).node 1).port.err = .outOfRange := by decide

/-- Section 7.9, step 2: the read of MP_STAT clears DONE and keeps ERROR. -/
theorem test_status_read_clears_done :
    let p := ((after (.mpStatRead 1) (driven fun p => { p with done := true, error := true })).node 1).port
    p.done = false ∧ p.error = true := by decide

/-- Section 7.9, step 4: the last read of the identity block ends IDENTIFY with DONE. -/
theorem test_last_identity_word_ends_identify :
    let p := ((after (.mpDataRead 1) (driven fun p => { p with cmd := some (window .identify 508) })).node 1).port
    p.cmd = none ∧ p.done = true ∧ p.error = false := by decide +kernel

/-- Section 8.8, first row: with frame 11 (tag 1) CLEAN, the READ of blocks 8 to 23 takes frame 0 for tag 2, posts its fetch, and sets
DATA. -/
theorem test_read_posts_fetch_of_second_frame :
    let s := (driven fun p => { p with block := 8, count := 16 }).modFrame 11 fun x => { x with st := .clean, own := some (1, 1) }
    let t := after (.read 1) { s with clean := [11] }
    (t.frame 0).own = some (1, 2) ∧ (t.entry 0).st = .fetchPosted ∧ (t.entry 0).first = 16 ∧ (t.entry 0).count = 8 ∧
      (t.entry 0).offset = 0x50000 ∧ t.data 1 = true ∧ t.attn = 2 := by decide +kernel

/-- R153, R157: a flush FAILED sets DATA for the WRITE that waits; the dirty limit posts the flush again, and the wait has a new timer. -/
theorem test_wait_for_second_flush_has_new_timer :
    let s := bay 0 fun d => { d with att.st := .attached, att.fig := smallDisk, port.cmd := some (window .write 0), port.waitT := some spent }
    let s := s.modFrame 0 fun x => { x with st := .flushing, own := some (0, 0) }
    let t := after (.flushFailed 0) (s.modEntry 0 fun x => { x with st := .flushPosted })
    (t.frame 0).st = .flushing ∧ (t.node 0).port.waitT = some (Timer.start 100) := by decide +kernel

/-- Section 8.8, row 23500: the fill of an expired frame is late, sets LATE_FILL and keeps the data. -/
theorem test_late_fill :
    let s := (driven id).modFrame 12 fun x => { x with st := .filling, own := some (1, 2), expired := true }
    let t := after (.fetchFilled 2) (s.modEntry 2 fun x => { x with st := .fetchPosted, frame := 12 })
    (t.node 1).att.lateFills = 1 ∧ (t.frame 12).st = .clean ∧ (t.frame 12).expired = false ∧
      (t.node 1).events = bitWord NodeEvent.lateFill.bit ∧ (t.entry 2).st = .free := by decide +kernel

/-- Section 8.9, row 50000: a DETACH frees the CLEAN frame and posts the flush of the DIRTY one. -/
theorem test_detach_flushes_dirty_frames :
    let s := (driven id).modNode 1 fun d => { d with att.dirty := [42] }
    let s := (s.modFrame 42 fun x => { x with st := .dirty, own := some (1, 7) }).modFrame 40 fun x =>
      { x with st := .clean, own := some (1, 0) }
    let t := after (.detach 6 1 0) { s with clean := [40] }
    (t.node 1).att.st = .detaching ∧ (t.frame 40).st = .free ∧ (t.frame 42).st = .flushing ∧ (t.entry 0).st = .flushPosted ∧
      (t.node 1).port.changed = true ∧ (t.slot 6).st = .accepted := by decide +kernel

/-! ### Orders, exchange memory, resets (sections 9.7, 10.2 and 10.4) -/

/-- Section 9.7, row 1000: pg_timeout_ms below inrush_ms is refused INVALID_PARAMETER (2). -/
theorem test_profile_with_short_power_good_timeout :
    resultOf (after (.profileSet 3 1 0) (params 3 (Profile.block { Profile.default with inrushMs := 2000, pgTimeoutMs := 1500 })
      State.reset)) 3 = 2 := by decide +kernel

/-- Section 9.7, rows 1021 and 1022: a write to an ACCEPTED slot is refused and counted, and ATTN.REFUSED is set. -/
theorem test_write_to_accepted_slot_is_refused :
    let t := after (.exchangeWrite 0x502 0xF 0xA51) (State.reset.modSlot 4 fun c => { c with st := .accepted })
    t.refused = 1 ∧ t.attn = 0x80 ∧ t.mem = [] := by decide

/-- R4: a fall of SLP_OFF at a BOOTING node updates the record, and at a node in GATED it does not. -/
theorem test_input_level_with_effect_updates_record :
    let s (st : PState) := bay 0 fun d => { d with sq.pst := st, pins.slpOff := true }
    ((after (.slpOffRise 0 false) (s .booting)).record 0).count = 2 ∧ ((after (.slpOffRise 0 false) (s .gated)).record 0).count = 0 := by
  decide +kernel

/-- R172, R173: an acknowledgement is stored in the record, and updates it, where it takes no flag out too. -/
theorem test_acknowledgement_updates_record :
    ((after (.eventAckWrite (.node 1) 1) State.reset).record 1).count = 2 ∧ (after (.eventAckWrite .shelf 1) State.reset).records.shelf = 2 := by
  decide +kernel

/-- Section 10.3: an acknowledgement removes the flags it names and leaves ATTN. -/
theorem test_event_ack_removes_flags :
    let t := after (.eventAckWrite (.node 2) 6) { bay 2 fun d => { d with events := 7 } with attn := 0x10 }
    (t.node 2).events = 1 ∧ (t.node 2).ack = 6 ∧ t.attn = 0x10 := by decide

/-- R175: in pulse mode a newly enabled bit that stands set gives a pulse. -/
theorem test_enabling_a_set_bit_pulses :
    (after (.attnEnWrite 1) { State.reset with attn := 1, ien := true, imode := true }).pulse = true := by decide

/-- Section 1.13: a node in GATED with PGOOD high is adopted at the release, its boot number kept, and its slot ABORTED (11). -/
theorem test_soft_reset_adopts_gated_node :
    let s := bay 1 fun d => { d with sq.pst := .gated, sq.boot := 3, pins := { d.pins with pres := true, pgood := true } }
    let t := after (.softResetRelease false false)
      { s.modSlot 2 fun c => { c with st := .accepted } with init := true, hold := true, msclk := 700000 }
    (t.node 1).sq.pst = .running ∧ (t.node 1).sq.boot = 3 ∧ (t.node 1).sq.since = 700000 ∧ resultOf t 2 = 11 ∧
      t.init = false := by decide +kernel

/-- R176: a full reset leaves STAT.INIT 1 and MSCLK 0, and a node with PRES high in OFF. -/
theorem test_full_reset :
    let t := after .fullReset { bay 0 fun d => { d with pins := { d.pins with pres := true } } with msclk := 9 }
    t.init = true ∧ t.msclk = 0 ∧ (t.node 0).sq.pst = .off := by decide

/-- Assumption 2: on an empty queue a millisecond passes, and a timer that ends joins the queue. -/
theorem test_empty_queue_ticks :
    let s := bay 0 fun d => { d with sq.pst := .stopping, sq.stopT := some { duration := 1000, elapsed := 999 } }
    (match step s with
      | .next t => t.msclk = 1 && t.pending = [.stopTimerExpiry 0]
      | .fault _ | .refused _ => false) = true := by decide +kernel

/-! ### Witnesses: every statement's hypotheses are met -/

theorem meets_PowerOnQueuesAndPowerOffStops_1 :
    ∃ (s : State) (k : SlotId) (n : NodeId) (flags : Byte), Operating s ∧ Ample s ∧ s.shelf.staggerPassed = false ∧ (s.slot
      k).st ≠ .accepted ∧ ((s.node n).sq.pst = .off ∨ (s.node n).sq.pst = .fault) ∧ (s.node n).sq.order = none ∧ flags &&&
      ~~~flagPrefetch = 0 ∧ (s.node n).sq.profile.inrushW ≤ s.shelf.limit :=
  ⟨stagger (bay 3 fun d => { d with sq.pst := .fault }), 31, 3, 1, by decide⟩

theorem meets_PowerOnQueuesAndPowerOffStops_2 :
    ∃ (s : State) (k : SlotId) (n : NodeId) (flags : Byte), Operating s ∧ Ample s ∧ (s.slot k).st ≠ .accepted ∧ ((s.node
      n).sq.pst = .booting ∨ (s.node n).sq.pst = .running) ∧ (s.node n).sq.order = none ∧ flags &&& ~~~flagEscalate = 0 :=
  ⟨bay 0 fun d => { d with sq.pst := .running }, 0, 0, 2, by decide⟩

theorem meets_ForceOffAndCycleCutPower_1 :
    ∃ (s : State) (k : SlotId) (n : NodeId), Operating s ∧ Ample s ∧ QuietNode s n ∧ (s.slot k).st ≠ .accepted ∧ (s.node
      n).sq.pst ≠ .absent ∧ (s.node n).sq.pst ≠ .off ∧ (s.node n).sq.order = none :=
  ⟨bay 1 fun d => { d with sq.pst := .inrush }, 0, 1, by decide⟩

theorem meets_ResetGatesNode_1 :
    (∃ (s : State) (k : SlotId) (n : NodeId), Operating s ∧ Ample s ∧ QuietNode s n ∧ (s.slot k).st ≠ .accepted ∧ (s.node
      n).sq.order = none ∧ ((s.node n).sq.pst = .booting ∨ (s.node n).sq.pst = .running)) ∧
    (∃ (s : State) (k : SlotId) (n : NodeId), Operating s ∧ Ample s ∧ QuietNode s n ∧ (s.slot k).st ≠ .accepted ∧ (s.node
      n).sq.order = none ∧ (s.node n).sq.pst = .running ∧ (s.node n).lv.hung = true ∧ ((s.node n).lv.hbWindow ≠ 0 ∨ (s.node
      n).lv.silWindow ≠ 0)) :=
  ⟨⟨bay 1 fun d => { d with sq.pst := .booting }, 0, 1, by decide⟩,
    ⟨bay 1 fun d => { d with sq.pst := .running, lv.hung := true, lv.hbWindow := 1000 }, 0, 1, by decide⟩⟩

theorem meets_ForceOffAndCycleCutPower_2 :
    ∃ (s : State) (k : SlotId) (n : NodeId), Operating s ∧ Ample s ∧ QuietNode s n ∧ (s.slot k).st ≠ .accepted ∧ (s.node
      n).sq.pst ∈ [PState.inrush, .gated, .booting, .running, .stopping, .fault] ∧ (s.node n).sq.order = none ∧ (s.node
      n).sq.profile.inrushW ≤ s.shelf.limit :=
  ⟨bay 1 fun d => { d with sq.pst := .fault }, 0, 1, by decide⟩

theorem meets_NmiPulsesAndMarks :
    ∃ (s : State) (k : SlotId) (n : NodeId) (l : Layout), Operating s ∧ (s.slot k).st ≠ .accepted ∧ ((s.node n).sq.pst =
      .booting ∨ (s.node n).sq.pst = .running) ∧ (s.node n).sq.order = none ∧ (s.node n).jr.layout = some l ∧ l.lossless =
      false :=
  ⟨bay 1 fun d => { d with sq.pst := .running, jr.layout := some ring }, 0, 1, ring, by decide⟩

theorem meets_ResetGatesNode_2 :
    ∃ (s : State) (k : SlotId) (j : SlotId) (n : NodeId) (o : PowerOrder), Operating s ∧ Ample s ∧ QuietNode s n ∧ (s.slot k).st
      ≠ .accepted ∧ j ≠ k ∧ (s.node n).sq.pst = .running ∧ (s.node n).sq.order = some o ∧ o.code = .nmi ∧ o.src = .slot j :=
  ⟨bay 1 fun d => { d with sq.pst := .running, sq.order := some (order .nmi 0) }, 0, 1, 1, order .nmi 0, by decide⟩

theorem meets_PresencePinMovesNode_1 :
    (∃ (s : State) (n : NodeId), Operating s ∧ (s.node n).sq.pst = .absent) ∧
    (∃ (s : State) (n : NodeId), Operating s ∧ Ample s ∧ QuietNode s n ∧ (s.node n).sq.pst ≠ .absent ∧ (s.node n).sq.order = none) :=
  ⟨⟨State.reset, 0, by decide⟩,
    ⟨bay 0 fun d => { d with sq.pst := .off }, 0, by decide⟩⟩

theorem meets_PresencePinMovesNode_2 :
    (∃ (s : State) (n : NodeId), Operating s ∧ (s.node n).sq.pst ≠ .absent) ∧
    (∃ (s : State) (n : NodeId), Operating s ∧ Ample s ∧ (s.node n).sq.pst = .absent) :=
  ⟨⟨bay 0 fun d => { d with sq.pst := .off }, 0, by decide⟩,
    ⟨State.reset, 0, by decide⟩⟩

theorem meets_PowerGoodRiseIsSeen :
    (∃ (s : State) (n : NodeId), Operating s ∧ ((s.node n).sq.pst ≠ .inrush ∨ (s.node n).sq.pgSeen = true)) ∧
    (∃ (s : State) (n : NodeId), Operating s ∧ (s.node n).sq.pst = .inrush ∧ (s.node n).sq.pgSeen = false ∧ (s.node n).sq.inrushT
      ≠ none) ∧
    (∃ (s : State) (n : NodeId), Operating s ∧ Ample s ∧ (s.node n).sq.pst = .inrush ∧ (s.node n).sq.pgSeen = false ∧ (s.node
      n).sq.inrushT = none) :=
  ⟨⟨bay 0 fun d => { d with sq.pst := .off }, 0, by decide⟩,
    ⟨bay 0 fun d => { d with sq.pst := .inrush, sq.inrushT := some spent }, 0, by decide⟩,
    ⟨bay 0 fun d => { d with sq.pst := .inrush }, 0, by decide⟩⟩

theorem meets_PowerLossTurnsNodeOff_1 :
    (∃ (s : State) (n : NodeId),
      let d := s.node n
      Operating s ∧ (d.sq.pst ∈ [PState.absent, .off, .queued, .dwell, .fault] ∨ d.sq.pst = .inrush ∧ d.sq.pgSeen = false)) ∧
    (∃ (s : State) (n : NodeId),
      let d := s.node n
      Operating s ∧ Ample s ∧ QuietNode s n ∧ d.sq.order = none ∧ (d.sq.pst = .inrush ∧ d.sq.pgSeen = true ∨ d.sq.pst =
      .gated ∨ d.sq.pst.released = true ∧ d.pins.slpOff = false)) ∧
    (∃ (s : State) (n : NodeId),
      let d := s.node n
      Operating s ∧ Ample s ∧ QuietNode s n ∧ d.sq.order = none ∧ d.sq.pst.released = true ∧ d.pins.slpOff = true) :=
  ⟨⟨bay 0 fun d => { d with sq.pst := .inrush }, 0, by decide⟩,
    ⟨bay 0 fun d => { d with sq.pst := .inrush, sq.pgSeen := true }, 0, by decide⟩,
    ⟨bay 0 fun d => { d with sq.pst := .running, pins.slpOff := true }, 0, by decide⟩⟩

theorem meets_PowerLossTurnsNodeOff_2 :
    (∃ (s : State) (n : NodeId) (level : Bool), Operating s ∧ (level = false ∨ (s.node n).sq.pst.released = false)) ∧
    (∃ (s : State) (n : NodeId) (o : PowerOrder) (j : SlotId), Operating s ∧ Ample s ∧ QuietNode s n ∧ (s.node n).sq.pst.released
      = true ∧ (s.node n).sq.order = some o ∧ o.code = .powerOff ∧ o.src = .slot j) ∧
    (∃ (s : State) (n : NodeId), Operating s ∧ Ample s ∧ QuietNode s n ∧ (s.node n).sq.pst.released = true ∧
      (s.node n).sq.order = none) ∧
    (∃ (s : State) (n : NodeId) (o : PowerOrder) (j : SlotId), Operating s ∧ Ample s ∧ QuietNode s n ∧
      (s.node n).sq.pst.released = true ∧ (s.node n).sq.order = some o ∧ o.code ≠ .powerOff ∧ o.src = .slot j) :=
  ⟨⟨State.reset, 0, true, by decide⟩,
    ⟨bay 0 fun d => { d with sq.pst := .stopping, sq.order := some (order .powerOff 2) }, 0, order .powerOff 2, 1, by decide⟩,
    ⟨bay 0 fun d => { d with sq.pst := .running }, 0, by decide⟩,
    ⟨bay 0 fun d => { d with sq.pst := .booting, sq.order := some (order .powerOn 0) }, 0, order .powerOn 0, 1, by decide⟩⟩

theorem meets_HeartbeatEdgeIsCounted :
    (∃ (s : State) (n : NodeId), Operating s ∧ (s.node n).sq.pst = .absent) ∧
    (∃ (s : State) (n : NodeId), Operating s ∧ (s.node n).sq.pst ≠ .absent ∧ (s.node n).sq.pst ≠ .running) ∧
    (∃ (s : State) (n : NodeId), Operating s ∧ (s.node n).sq.pst = .running ∧ (s.node n).lv.hbWindow ≠ 0) :=
  ⟨⟨State.reset, 0, by decide⟩,
    ⟨bay 0 fun d => { d with sq.pst := .off }, 0, by decide⟩,
    ⟨bay 0 fun d => { d with sq.pst := .running, lv.hbWindow := 1000 }, 0, by decide⟩⟩

theorem meets_IdleInputsChangeNothing_1 :
    ∃ (s : State), s.init = true :=
  ⟨{ State.reset with init := true }, by decide⟩

/-- No timer runs. -/
theorem meets_IdleInputsChangeNothing_2 :
    ∃ (s : State) (n : NodeId) (i : WatchId) (f : FrameId),
      let q := (s.node n).sq
      Operating s ∧ ranOut q.inrushT = false ∧ ranOut q.pgT = false ∧ ranOut q.resetT = false ∧ ranOut q.gateT = false ∧
      ranOut q.bootT = false ∧ ranOut q.buttonT = false ∧ ranOut q.stopT = false ∧ ranOut q.nmiT = false ∧
      ranOut q.dwellT = false ∧ ranOut q.admT = false ∧ ranOut s.shelf.staggerT = false ∧ hbRuns (s.node n) = false ∧
      silRuns (s.node n) = false ∧ ranOut (s.node n).ch.idleT = false ∧ ranOut (s.pair i n).holdoffT = false ∧
      ranOut (s.node n).port.waitT = false ∧ ranOut (s.frame f).ageT = false :=
  ⟨State.reset, 3, 31, 95, by decide⟩

/-- Timers that run and have not run out, and a break item one millisecond before its end. -/
theorem meets_IdleInputsChangeNothing_3 :
    ∃ (s : State) (n : NodeId) (b : Timer), Operating s ∧ hbRuns (s.node n) = true ∧
      (s.node n).lv.hbAge < (s.node n).lv.hbWindow ∧ silRuns (s.node n) = true ∧
      (s.node n).lv.silAge < (s.node n).lv.silWindow ∧ (s.node n).ch.idleT ≠ none ∧
      ranOut (s.node n).ch.idleT = false ∧ (s.node n).sq.nmiT ≠ none ∧ ranOut (s.node n).sq.nmiT = false ∧
      s.shelf.staggerT ≠ none ∧ ranOut s.shelf.staggerT = false ∧ (s.node n).ch.tx = .brk b ∧ b.elapsed < b.duration :=
  ⟨stagger (bay 0 fun d =>
      { d with sq.pst := .running, sq.nmiT := some lasting, lv.hbWindow := 1000, lv.hbAge := 999, lv.silWindow := 1000,
               lv.silAge := 999, ch.idleT := some lasting, ch.tx := .brk lasting }), 0, lasting, by decide⟩

theorem meets_InrushAndPowerGoodExpiries :
    (∃ (s : State) (n : NodeId) (o : PowerOrder) (j : SlotId), Operating s ∧ (s.node n).sq.pst = .inrush ∧ ranOut (s.node n).sq.inrushT = true ∧ (s.node n).sq.pgSeen = false ∧ Ample s ∧ QuietNode s n ∧ (s.node n).sq.order = some o ∧ o.src = .slot j ∧
      ranOut (s.node n).sq.pgT = true) ∧
    (∃ (s : State) (n : NodeId), Operating s ∧ (s.node n).sq.pst = .inrush ∧ Ample s ∧ ranOut (s.node n).sq.inrushT = true ∧ (s.node
      n).sq.pgSeen = true) :=
  ⟨⟨bay 0 fun d => { d with sq.pst := .inrush, sq.inrushT := some spent, sq.pgT := some spent, sq.order := some (order .powerOn 0) }, 0,
      order .powerOn 0, 1, by decide⟩,
    ⟨bay 0 fun d => { d with sq.pst := .inrush, sq.inrushT := some spent, sq.pgSeen := true }, 0, by decide⟩⟩

theorem meets_GateAndBootTimers_1 :
    (∃ (s : State) (n : NodeId) (o : PowerOrder) (j : SlotId), Operating s ∧ Ample s ∧ (s.node n).jr.layout = none ∧ (s.node
      n).sq.profile.bootTimeoutS ≠ 0 ∧ (s.node n).sq.pst = .gated ∧ (s.node n).sq.order = some o ∧ o.src = .slot j ∧ ranOut (s.node n).sq.resetT = true ∧ (s.node n).sq.prefetch ≠ .waiting ∧ o.code = .reset) ∧
    (∃ (s : State) (n : NodeId) (o : PowerOrder) (j : SlotId), Operating s ∧ Ample s ∧ (s.node n).jr.layout = none ∧ (s.node
      n).sq.profile.bootTimeoutS ≠ 0 ∧ (s.node n).sq.pst = .gated ∧ (s.node n).sq.order = some o ∧ o.src = .slot j ∧ ranOut (s.node n).sq.resetT = true ∧ (s.node n).sq.prefetch = .waiting ∧ (s.node n).sq.gateT ≠ none) ∧
    (∃ (s : State) (n : NodeId) (o : PowerOrder) (j : SlotId), Operating s ∧ Ample s ∧ (s.node n).jr.layout = none ∧ (s.node
      n).sq.profile.bootTimeoutS ≠ 0 ∧ (s.node n).sq.pst = .gated ∧ (s.node n).sq.order = some o ∧ o.src = .slot j ∧ (s.node
      n).sq.resetT = none ∧ (s.node n).sq.prefetch = .waiting ∧ ranOut (s.node n).sq.gateT = true ∧ o.code = .powerOn) :=
  ⟨⟨bay 0 fun d => { d with sq.pst := .gated, sq.profile.bootTimeoutS := 1, sq.order := some (order .reset 0), sq.resetT := some spent }, 0, order .reset 0, 1, by decide⟩,
    ⟨bay 0 fun d => { d with sq.pst := .gated, sq.profile.bootTimeoutS := 1, sq.order := some (order .powerOn 0), sq.resetT := some spent, sq.gateT := some spent, sq.prefetch := .waiting }, 0, order .powerOn 0, 1, by decide⟩,
    ⟨bay 0 fun d => { d with sq.pst := .gated, sq.profile.bootTimeoutS := 1, sq.order := some (order .powerOn 0), sq.gateT := some spent, sq.prefetch := .waiting }, 0, order .powerOn 0, 1, by decide⟩⟩

theorem meets_GateAndBootTimers_2 :
    ∃ (s : State) (n : NodeId) (o : PowerOrder) (j : SlotId), Operating s ∧ Ample s ∧ (s.node n).sq.pst = .booting ∧ ranOut (s.node n).sq.bootT = true ∧ (s.node n).sq.order = some o ∧ o.code = .powerOn ∧ o.src = .slot j :=
  ⟨bay 0 fun d => { d with sq.pst := .booting, sq.bootT := some spent, sq.order := some (order .powerOn 0) }, 0, order .powerOn 0, 1, by decide⟩

theorem meets_StoppingTimers :
    (∃ (s : State) (n : NodeId) (o : PowerOrder) (j : SlotId), Operating s ∧ (s.node n).sq.pst = .stopping ∧ ranOut (s.node n).sq.buttonT = true ∧ Ample s ∧ QuietNode s n ∧ ranOut (s.node n).sq.stopT = true ∧ (s.node n).sq.order = some o ∧ o.src =
      .slot j ∧ o.flags &&& flagEscalate ≠ 0) ∧
    (∃ (s : State) (n : NodeId) (o : PowerOrder) (j : SlotId), Operating s ∧ (s.node n).sq.pst = .stopping ∧ Ample s ∧ ranOut (s.node n).sq.stopT = true ∧ (s.node n).sq.order = some o ∧ o.src = .slot j ∧ o.flags &&& flagEscalate = 0) :=
  ⟨⟨bay 0 fun d => { d with sq.pst := .stopping, sq.buttonT := some spent, sq.stopT := some spent, sq.order := some (order .powerOff 2) }, 0, order .powerOff 2, 1, by decide⟩,
    ⟨bay 0 fun d => { d with sq.pst := .stopping, sq.buttonT := some spent, sq.stopT := some spent, sq.order := some (order .powerOff 0) }, 0, order .powerOff 0, 1, by decide⟩⟩

theorem meets_NmiDwellAndAdmissionTimers_1 :
    ∃ (s : State) (n : NodeId) (o : PowerOrder) (j : SlotId), Operating s ∧ Ample s ∧ ((s.node n).sq.pst = .booting ∨ (s.node
      n).sq.pst = .running) ∧ ranOut (s.node n).sq.nmiT = true ∧ (s.node n).sq.order = some o ∧ o.src = .slot j :=
  ⟨bay 0 fun d => { d with sq.pst := .booting, sq.nmiT := some spent, sq.order := some (order .nmi 0) }, 0, order .nmi 0, 1, by decide⟩

theorem meets_NmiDwellAndAdmissionTimers_2 :
    ∃ (s : State) (n : NodeId), Operating s ∧ Ample s ∧ s.shelf.staggerPassed = false ∧ (s.node n).sq.pst = .dwell ∧ ranOut (s.node n).sq.dwellT = true :=
  ⟨stagger (bay 0 fun d => { d with sq.pst := .dwell, sq.dwellT := some spent }), 0, by decide⟩

theorem meets_NmiDwellAndAdmissionTimers_3 :
    ∃ (s : State) (n : NodeId) (o : PowerOrder) (j : SlotId), Operating s ∧ Ample s ∧ (s.node n).sq.pst = .queued ∧ ranOut (s.node n).sq.admT = true ∧ (s.node n).sq.order = some o ∧ o.src = .slot j :=
  ⟨bay 0 fun d => { d with sq.pst := .queued, sq.admT := some spent, sq.order := some (order .powerOn 0) }, 0, order .powerOn 0, 1, by decide⟩

theorem meets_EffectiveBudgetAndLimit :
    (∃ (h : Shelf) (g : Shelf), h.cfg.headroom ≤ h.effective ∧ g.cfg = h.cfg ∧ h.cfg.f1 ≤ h.cfg.f2 ∧ h.cfg.f0 ≤ h.cfg.f1 ∧
      g.supplies ≤ h.supplies) ∧
    (∃ (h : Shelf), h.effective < h.cfg.headroom) :=
  ⟨⟨Shelf.full true true, Shelf.full false true, by decide⟩,
    ⟨{ Shelf.full true true with cfg.headroom := 1 }, by decide⟩⟩

theorem meets_StaggerTimerAdmitsHead :
    (∃ (s : State), Operating s ∧ s.shelf.isOver = false ∧ s.total ≤ s.shelf.effective ∧ (∃ t ∈ s.shelf.staggerT, t.duration ≤ t.elapsed) ∧ s.shelf.queue =
      []) ∧
    (∃ (s : State) (n : NodeId) (o : PowerOrder), Operating s ∧ s.shelf.isOver = false ∧ s.total ≤ s.shelf.effective ∧
      (∃ t ∈ s.shelf.staggerT, t.duration ≤ t.elapsed) ∧ s.shelf.queue = [n] ∧ (s.node n).sq.pst = .queued ∧ (s.node n).jr.layout = none ∧
      (s.node n).sq.order = some o ∧ o.code = .cycle ∧
      s.total - (s.node n).sq.reservation + (s.node n).sq.profile.inrushW ≤ s.shelf.limit) ∧
    (∃ (s : State) (n : NodeId) (o : PowerOrder), Operating s ∧ s.shelf.isOver = false ∧ s.total ≤ s.shelf.effective ∧
      (∃ t ∈ s.shelf.staggerT, t.duration ≤ t.elapsed) ∧ s.shelf.queue = [n] ∧ (s.node n).sq.pst = .queued ∧ (s.node n).jr.layout = none ∧
      (s.node n).sq.order = some o ∧ o.code = .powerOn ∧ o.flags &&& flagPrefetch = 0 ∧
      s.total - (s.node n).sq.reservation + (s.node n).sq.profile.inrushW ≤ s.shelf.limit) :=
  ⟨⟨State.reset.modShelf fun h => { h with staggerT := some spent }, by decide⟩,
    ⟨(bay 0 fun d => { d with sq.pst := .queued, sq.order := some (order .cycle 0) }).modShelf fun h =>
        { h with staggerT := some spent, queue := [0] }, 0, order .cycle 0, by decide⟩,
    ⟨(bay 0 fun d => { d with sq.pst := .queued, sq.order := some (order .powerOn 0) }).modShelf fun h =>
        { h with staggerT := some spent, queue := [0] }, 0, order .powerOn 0, by decide⟩⟩

theorem meets_SupplyChangeDeterminesShelf :
    (∃ (s : State) (p : SupplyPin),
      let s1 := match p with
        | .a => { s with supplyA := !s.supplyA }
        | .b => { s with supplyB := !s.supplyB }
      let s2 := shelfEvent (s1.modShelf fun h => { h with sampleA := s1.supplyA, sampleB := s1.supplyB }) .supplyChanged
      Operating s ∧ s.shelf.cfg.shedEnable = false ∧ s.shelf.queue = [] ∧ s2.total ≤ s2.shelf.effective ∧ s.shelf.isOver =
      false) ∧
    (∃ (s : State) (p : SupplyPin),
      let s1 := match p with
        | .a => { s with supplyA := !s.supplyA }
        | .b => { s with supplyB := !s.supplyB }
      let s2 := shelfEvent (s1.modShelf fun h => { h with sampleA := s1.supplyA, sampleB := s1.supplyB }) .supplyChanged
      Operating s ∧ s.shelf.cfg.shedEnable = false ∧ s.shelf.queue = [] ∧ s2.total > s2.shelf.effective ∧ s.shelf.isOver =
      true) ∧
    (∃ (s : State) (p : SupplyPin),
      let s1 := match p with
        | .a => { s with supplyA := !s.supplyA }
        | .b => { s with supplyB := !s.supplyB }
      let s2 := shelfEvent (s1.modShelf fun h => { h with sampleA := s1.supplyA, sampleB := s1.supplyB }) .supplyChanged
      Operating s ∧ s.shelf.cfg.shedEnable = false ∧ s.shelf.queue = [] ∧ s2.total > s2.shelf.effective ∧ s.shelf.isOver =
      false) ∧
    (∃ (s : State) (p : SupplyPin),
      let s1 := match p with
        | .a => { s with supplyA := !s.supplyA }
        | .b => { s with supplyB := !s.supplyB }
      let s2 := shelfEvent (s1.modShelf fun h => { h with sampleA := s1.supplyA, sampleB := s1.supplyB }) .supplyChanged
      Operating s ∧ s.shelf.cfg.shedEnable = false ∧ s.shelf.queue = [] ∧ s2.total ≤ s2.shelf.effective ∧ s.shelf.isOver =
      true) :=
  ⟨⟨State.reset, .a, by decide⟩,
    ⟨(bay 0 fun d => { d with sq.pst := .off, sq.profile.standbyW := 1 }).modShelf fun h => { h with isOver := true }, .b, by decide⟩,
    ⟨bay 0 fun d => { d with sq.pst := .off, sq.profile.standbyW := 1 }, .a, by decide⟩,
    ⟨State.reset.modShelf fun h => { h with isOver := true }, .b, by decide⟩⟩

theorem meets_OverShelfShedsNode :
    ∃ (s : State) (n : NodeId), Operating s ∧ s.shelf.isOver = false ∧ s.shelf.cfg.shedEnable = true ∧ s.shelf.shed = none ∧
      s.supplyA = true ∧ (s.node n).sq.pst = .running ∧ (s.node n).sq.order = none ∧ (s.node n).jr.layout = none ∧ 0 <
      (s.node n).sq.profile.shedRank ∧ (∀ m, m ≠ n → (s.node m).sq.profile.shedRank < (s.node n).sq.profile.shedRank) ∧
      s.total > s.shelf.cfg.bcfg * s.shelf.cfg.factor (supplyCount false s.supplyB) / 100 :=
  ⟨{ bay 1 (fun d => { d with sq.pst := .running, sq.profile.steadyW := 1, sq.profile.shedRank := 1 }) with supplyA := true, shelf.cfg.shedEnable := true }, 1, by decide⟩

theorem meets_WindowExpiries_1 :
    ∃ (s : State) (n : NodeId), Operating s ∧ Ample s ∧ QuietNode s n ∧ (s.node n).sq.pst = .running ∧ (s.node n).sq.order =
      none ∧ (s.node n).lv.hbWindow ≠ 0 ∧ (s.node n).lv.silWindow = 0 ∧ (s.node n).lv.hbReached = false ∧ (s.node n).lv.hung
      = false ∧ (s.node n).lv.action = .reset ∧ (s.node n).lv.recovery < (s.node n).lv.limit ∧
      (s.node n).lv.hbWindow ≤ (s.node n).lv.hbAge :=
  ⟨bay 1 fun d => { d with sq.pst := .running, lv.hbWindow := 1000, lv.hbAge := 1000, lv.action := .reset, lv.recovery := 2 }, 1,
    by decide⟩

theorem meets_WindowExpiries_2 :
    (∃ (s : State) (n : NodeId), Operating s ∧ (s.node n).sq.pst = .running ∧ (s.node n).lv.hung = false ∧ (s.node n).lv.hbWindow
      ≠ 0 ∧ (s.node n).lv.silWindow ≠ 0 ∧ (s.node n).lv.hbReached = false ∧ (s.node n).lv.silReached = false ∧
      (s.node n).lv.hbWindow ≤ (s.node n).lv.hbAge ∧ (s.node n).lv.silWindow ≤ (s.node n).lv.silAge) ∧
    (∃ (s : State) (n : NodeId), Operating s ∧ (s.node n).sq.pst = .running ∧ (s.node n).lv.hung = false ∧ (s.node n).lv.hbWindow
      ≠ 0 ∧ (s.node n).lv.silWindow ≠ 0 ∧ (s.node n).lv.hbReached = true ∧ (s.node n).lv.silReached = false ∧ (s.node
      n).lv.action = .none ∧ (s.node n).lv.silWindow ≤ (s.node n).lv.silAge ∧ (s.node n).jr.layout = none) :=
  ⟨⟨bay 1 fun d => { d with sq.pst := .running, lv.hbWindow := 1000, lv.silWindow := 1000, lv.hbAge := 1000, lv.silAge := 1000 }, 1,
      by decide⟩,
    ⟨bay 1 fun d => { d with sq.pst := .running, lv.hbWindow := 1000, lv.silWindow := 1000, lv.hbReached := true, lv.silAge := 1000 }, 1,
      by decide⟩⟩

theorem meets_ConfigurationOrdersReplace_1 :
    (∃ (s : State) (k : SlotId) (c : BudgetCfg), Operating s ∧ (s.slot k).st ≠ .accepted ∧ s.shelf.isOver = false ∧ s.shelf.queue =
      [] ∧ budgetOf (slotParams s k) = some c ∧ s.total ≤ c.bcfg * c.factor s.shelf.supplies / 100) ∧
    (∃ (s : State) (k : SlotId) (n : NodeId) (p : Profile), Operating s ∧ (s.slot k).st ≠ .accepted ∧ s.shelf.isOver = false ∧
      s.shelf.queue = [] ∧ profileOf (slotParams s k) = some p ∧ (s.modNode n fun d => { d with sq := { d.sq with profile :=
      p } }).total ≤ s.shelf.effective) ∧
    (∃ (s : State) (k : SlotId) (n : NodeId) (l : LivenessSettings), Operating s ∧ (s.slot k).st ≠ .accepted ∧ s.shelf.isOver =
      false ∧ s.shelf.queue = [] ∧ livenessOf (slotParams s k) = some l ∧ (s.node n).sq.pst ≠ .running ∧ (s.node n).lv.hung
      = false) :=
  ⟨⟨State.reset.store (slotAddr 0 + 0x38) (BudgetCfg.block budget), 0, budget, by decide⟩,
    ⟨State.reset.store (slotAddr 0 + 0x38) (Profile.block Profile.default), 0, 0, Profile.default, by decide⟩,
    ⟨State.reset.store (slotAddr 0 + 0x38) (LivenessSettings.block liveness), 0, 0, liveness, by decide⟩⟩

theorem meets_RefusedOrdersAndSlots_1 :
    ∃ (s : State) (k : SlotId) (code : Byte), Operating s ∧ (s.slot k).st ≠ .accepted ∧ code ∉ orderCodes :=
  ⟨State.reset, 0, 8, by decide⟩

theorem meets_RefusedOrdersAndSlots_2 :
    (∃ (s : State) (k : SlotId), WaitsSettled s ∧ (s.init = true ∨ (s.slot k).st = .accepted)) ∧
    (∃ (s : State) (k : SlotId), WaitsSettled s ∧ (s.init = true ∨ (s.slot k).st = .accepted)) ∧
    (∃ (s : State) (k : SlotId), WaitsSettled s ∧ s.init = false ∧ (s.slot k).st ≠ .accepted) :=
  ⟨⟨State.reset.modSlot 0 fun c => { c with st := .accepted }, 0, by decide⟩,
    ⟨{ State.reset with init := true }, 0, by decide⟩,
    ⟨State.reset, 0, by decide⟩⟩

theorem meets_CaptureWritesRecord :
    ∃ (s : State) (k : SlotId) (slot : Nat), Operating s ∧ (s.slot k).st ≠ .accepted ∧ captureOf (slotParams s k) = some slot :=
  ⟨State.reset.store (slotAddr 0 + 0x38) [63], 0, 63, by decide⟩

theorem meets_InjectQueuesItem :
    (∃ (s : State) (k : SlotId) (n : NodeId) (i : TxPayload), Operating s ∧ (s.slot k).st ≠ .accepted ∧ (s.node n).sq.pst ≠
      .absent ∧ (s.node n).sq.pwrEn = true ∧ (s.node n).ch.txq.length < 4 ∧ itemOf (slotParams s k) 64 = some i ∧ (s.node
      n).ch.tx ≠ .idle) ∧
    (∃ (s : State) (k : SlotId) (n : NodeId) (i : TxPayload), Operating s ∧ (s.slot k).st ≠ .accepted ∧ (s.node n).sq.pst ≠
      .absent ∧ (s.node n).sq.pwrEn = true ∧ (s.node n).ch.txq.length < 4 ∧ itemOf (slotParams s k) 64 = some i ∧ (s.node
      n).ch.tx = .idle ∧ (s.node n).ch.txq = []) :=
  ⟨⟨(bay 0 fun d => { d with sq.pst := .inrush, ch.tx := .guard }).store (slotAddr 0 + 0x38) [2, 0, 10, 0], 0, 0, .brk 10, by decide⟩,
    ⟨(bay 0 fun d => { d with sq.pst := .inrush }).store (slotAddr 0 + 0x38) [2, 0, 10, 0], 0, 0, .brk 10, by decide⟩⟩

theorem meets_TransmitterGoesOn :
    (∃ (s : State) (n : NodeId) (i : TxItem) (rest : List TxItem) (k : SlotId),
      let c := (s.node n).ch
      Operating s ∧ c.tx = .string ∧ c.txq = i :: rest ∧ i.src = .slot k) ∧
    (∃ (s : State) (n : NodeId) (i : TxItem) (rest : List TxItem) (k : SlotId) (b : Timer),
      let c := (s.node n).ch
      Operating s ∧ c.tx = .brk b ∧ b.duration ≤ b.elapsed ∧ c.txq = i :: rest ∧ i.src = .slot k) ∧
    (∃ (s : State) (n : NodeId),
      let c := (s.node n).ch
      Operating s ∧ c.tx = .guard) ∧
    (∃ (s : State) (n : NodeId),
      let c := (s.node n).ch
      Operating s ∧ c.tx = .idle) :=
  ⟨⟨bay 0 fun d => { d with ch.tx := .string, ch.txq := [pulse] }, 0, pulse, [], 1, by decide⟩,
    ⟨bay 0 fun d => { d with ch.tx := .brk spent, ch.txq := [pulse] }, 0, pulse, [], 1, spent, by decide⟩,
    ⟨bay 0 fun d => { d with ch.tx := .guard, ch.txq := [pulse] }, 0, by decide⟩,
    ⟨State.reset, 0, by decide⟩⟩

theorem meets_ConfigurationOrdersReplace_2 :
    ∃ (s : State) (k : SlotId) (n : NodeId) (u : UartSettings), Operating s ∧ (s.slot k).st ≠ .accepted ∧ (s.node n).ch.txq = []
      ∧ uartOf (slotParams s k) = some u ∧ (s.node n).jr.asm = .empty :=
  ⟨State.reset.store (slotAddr 0 + 0x38) (UartSettings.block UartSettings.default), 0, 0, UartSettings.default, by decide⟩

theorem meets_FramerStates :
    (∃ (s : State) (n : NodeId),
      let c := (s.node n).ch
      Operating s ∧ c.framer = .idle) ∧
    (∃ (s : State) (n : NodeId),
      let c := (s.node n).ch
      Operating s ∧ c.framer = .markWait) ∧
    (∃ (s : State) (n : NodeId) (f : FrameFormat),
      let c := (s.node n).ch
      Operating s ∧ c.framer = .frame f) :=
  ⟨⟨bay 0 fun d => { d with ch.framer := .idle }, 0, by decide⟩,
    ⟨State.reset, 0, by decide⟩,
    ⟨bay 0 fun d => { d with ch.framer := .frame plainFrame }, 0, plainFrame, by decide⟩⟩

/-- At a RUNNING node with and without a silence window, and at one that is OFF. -/
theorem meets_ByteIsCountedAndAssembled :
    ∀ x ∈ [(PState.running, 1000), (.running, 0), (.off, 1000)], ∃ (s : State) (n : NodeId) (b : Byte) (f : FrameFormat),
      let v : Byte := if f.dataBits = 7 then b &&& 0x7F else b
      Operating s ∧ (s.node n).ch.framer = .frame f ∧ (f.dataBits = 7 ∨ f.dataBits = 8) ∧ (f.stopBits = 1 ∨ f.stopBits = 2)
      ∧ v ≠ 0 ∧ v ≠ 0x0A ∧ v ≠ 0x0D ∧ (∀ i, entryMatches (s.watchEntry i) n (appendHistory (s.node n).hist v) = false) ∧
      (s.node n).jr.asm.blocked = .taking ∧ (s.node n).jr.asm.cr = false ∧ (s.node n).jr.asm.text.length < 111 ∧
      ((s.node n).sq.pst = .running → (s.node n).lv.silWindow = 0 →
        ((s.node n).lv.hung = true ↔ (s.node n).lv.hbWindow ≠ 0 ∧ (s.node n).lv.hbReached = true)) ∧
      (s.node n).ch.framing ≤ 65535 ∧ (s.node n).sq.pst = x.1 ∧ (s.node n).lv.silWindow = x.2 :=
  fun x h => ⟨bay 0 fun d => { d with sq.pst := x.1, lv.silWindow := x.2, lv.hbWindow := 1000, lv.hbReached := true, lv.hung := true, ch.framing := 65535, ch.framer := .frame { dataBits := 7, parity := .even, stopBits := 2 }, jr.asm.text := List.replicate 110 0x41 }, 0, 0xC1, { dataBits := 7, parity := .even, stopBits := 2 }, by revert x; decide⟩

theorem meets_LineEndsWriteRecord_2 :
    ∃ (s : State) (n : NodeId), Operating s ∧ (s.node n).jr.layout = none ∧ (s.node n).jr.asm.blocked = .taking ∧ (s.node
      n).jr.asm.cr = false :=
  ⟨State.reset, 0, by decide⟩

theorem meets_LineEndsWriteRecord_1 :
    (∃ (s : State) (n : NodeId) (l : Layout), Operating s ∧ (s.node n).jr.layout = some l ∧ l.lossless = false ∧ (s.node
      n).jr.asm.blocked = .taking ∧ (s.node n).jr.asm.cr = false ∧ (s.node n).jr.asm.text ≠ [] ∧ (s.node n).ch.framer =
      .frame { dataBits := 8, parity := .none, stopBits := 1 } ∧ (s.node n).sq.pst ≠ .running ∧ (∀ i, entryMatches
      (s.watchEntry i) n (appendHistory (s.node n).hist 0x0A) = false) ∧ (∃ t ∈ (s.node n).ch.idleT, t.duration ≤ t.elapsed)) ∧
    (∃ (s : State) (n : NodeId) (l : Layout), Operating s ∧ (s.node n).jr.layout = some l ∧ l.lossless = false ∧ (s.node
      n).jr.asm.blocked = .taking ∧ (s.node n).jr.asm.cr = false ∧ (s.node n).jr.asm.text ≠ [] ∧ (s.node n).ch.framer =
      .frame { dataBits := 8, parity := .none, stopBits := 1 } ∧ (s.node n).sq.pst ≠ .running ∧ (∀ i, entryMatches
      (s.watchEntry i) n (appendHistory (s.node n).hist 0x0A) = false) ∧ (∃ t ∈ (s.node n).ch.idleT, t.duration ≤ t.elapsed)) :=
  ⟨⟨bay 0 fun d => { d with jr.layout := some ring, jr.asm.text := [0x41], ch.idleT := some spent, ch.framer := .frame plainFrame }, 0, ring, by decide⟩,
    ⟨bay 0 fun d => { d with jr.layout := some { ring with pinned := 1 }, jr.asm.text := [0x41], ch.idleT := some spent, ch.framer := .frame plainFrame }, 0, { ring with pinned := 1 }, by decide⟩⟩

theorem meets_LayoutAndTailOrders_1 :
    (∃ (s : State) (k : SlotId) (n : NodeId) (l : Option Layout), Operating s ∧ (s.slot k).st ≠ .accepted ∧ layoutOf s n
      (slotParams s k) = some l) ∧
    (∃ (s : State) (k : SlotId) (n : NodeId) (l : Option Layout), Operating s ∧ (s.slot k).st ≠ .accepted ∧ layoutOf s n
      (slotParams s k) = some l) :=
  ⟨⟨State.reset, 0, 0, none, by decide⟩,
    ⟨State.reset.store (slotAddr 0 + 0x38) [0, 0, 0, 0, 8, 0, 1, 0, 0], 0, 0, some ring, by decide⟩⟩

theorem meets_LayoutAndTailOrders_2 :
    (∃ (s : State) (k : SlotId) (n : NodeId) (l : Layout),
      let j := (s.node n).jr
      Operating s ∧ (s.slot k).st ≠ .accepted ∧ j.layout = some l ∧ l.tail ≠ 0 ∧ l.lossless = false ∧ j.tail.held = false) ∧
    (∃ (s : State) (k : SlotId) (n : NodeId),
      let j := (s.node n).jr
      Operating s ∧ (s.slot k).st ≠ .accepted ∧ j.tail.held = true) :=
  ⟨⟨bay 0 fun d => { d with jr.layout := some ring }, 0, 0, ring, by decide⟩,
    ⟨bay 0 fun d => { d with jr.tail.held := true }, 0, 0, by decide⟩⟩

/-- The target 0xFF; tail held, with and without a layout; not held without a layout, and with one whose tail holds one record. -/
theorem meets_TailReleaseClearsTailHeld :
    (∃ (s : State) (k : SlotId), Operating s ∧ (s.slot k).st ≠ .accepted ∧
      s.mem.readRun (slotAddr k + 4) 4 = [0x14, shelfByte, 0, 0]) ∧
    (∃ (s : State) (k : SlotId) (n : NodeId), Operating s ∧ (s.slot k).st ≠ .accepted ∧
      s.mem.readRun (slotAddr k + 4) 4 = [0x14, nodeByte n, 0, 0] ∧ (s.node n).jr.tail.held = true ∧
      (s.node n).jr.layout = none) ∧
    (∃ (s : State) (k : SlotId) (n : NodeId) (l : Layout), Operating s ∧ (s.slot k).st ≠ .accepted ∧
      s.mem.readRun (slotAddr k + 4) 4 = [0x14, nodeByte n, 0, 0] ∧ (s.node n).jr.tail.held = true ∧
      (s.node n).jr.layout = some l) ∧
    (∃ (s : State) (k : SlotId) (n : NodeId), Operating s ∧ (s.slot k).st ≠ .accepted ∧
      s.mem.readRun (slotAddr k + 4) 4 = [0x14, nodeByte n, 0, 0] ∧ (s.node n).jr.tail.held = false ∧
      (s.node n).jr.layout = none) ∧
    (∃ (s : State) (k : SlotId) (n : NodeId) (l : Layout), Operating s ∧ (s.slot k).st ≠ .accepted ∧
      s.mem.readRun (slotAddr k + 4) 4 = [0x14, nodeByte n, 0, 0] ∧ (s.node n).jr.tail.held = false ∧
      (s.node n).jr.layout = some l ∧ l.tail ≠ 0 ∧ 0 < l.body) :=
  let header (n : Byte) (s : State) : State := s.store (slotAddr 31 + 4) [0x14, n, 0, 0]
  ⟨⟨header 0xFF State.reset, 31, by decide⟩,
    ⟨header 3 (bay 3 fun d => { d with jr.tail.held := true }), 31, 3, by decide⟩,
    ⟨header 0 (bay 0 fun d => { d with jr.layout := some ring, jr.tail.held := true }), 31, 0, ring, by decide⟩,
    ⟨header 0 State.reset, 31, 0, by decide⟩,
    ⟨header 0 (bay 0 fun d => { d with jr.layout := some ring, jr.bodyCount := 9 }), 31, 0, ring, by decide⟩⟩

theorem meets_LineRecordLayout :
    ∃ (l : Line) (arg : Nat), l.text.length ≤ 112 ∧ arg < 4294967296 :=
  ⟨{ boot := 1, time := 0, flags := { cont := true, partialEnd := false, brk := false, framing := false }, lost := 65535, text := List.replicate 112 0x41 }, 4294967295, by decide⟩

theorem meets_MarkersAreBodyRecords :
    (∃ (s : State) (n : NodeId),
      let j := (s.node n).jr
      j.layout = none) ∧
    (∃ (s : State) (n : NodeId) (l : Layout),
      let j := (s.node n).jr
      j.layout = some l ∧ (l.lossless = false ∨ l.body - (j.bodyCount - j.fence) ≠ 0)) ∧
    (∃ (s : State) (n : NodeId) (l : Layout),
      let j := (s.node n).jr
      j.layout = some l ∧ l.lossless = true ∧ l.body - (j.bodyCount - j.fence) = 0) :=
  ⟨⟨State.reset, 0, by decide⟩,
    ⟨bay 0 fun d => { d with jr.layout := some { ring with lossless := true }, jr.bodyCount := 7 }, 0, { ring with lossless := true }, by decide⟩,
    ⟨bay 0 fun d => { d with jr.layout := some { ring with lossless := true }, jr.bodyCount := 8 }, 0, { ring with lossless := true }, by decide⟩⟩

theorem meets_FenceEvent :
    (∃ (s : State) (n : NodeId),
      let j := (s.node n).jr
      Operating s ∧ j.pendingLine = none) ∧
    (∃ (s : State) (n : NodeId) (hi : Word) (l : Layout) (line : Line),
      let j := (s.node n).jr
      let w := hi.toNat * 0x100000000 + (s.node n).fenceLo.toNat
      let fence := if w > j.bodyCount then j.bodyCount else if w < j.fence then j.fence else w
      Operating s ∧ j.layout = some l ∧ l.lossless = true ∧ j.pendingLine = some line ∧ j.asm.blocked = .taking ∧ l.body -
      (j.bodyCount - fence) ≠ 0) :=
  ⟨⟨State.reset, 0, by decide⟩,
    ⟨bay 0 fun d => { d with jr.layout := some { ring with lossless := true }, jr.bodyCount := 8, jr.pendingLine := some heldLine, fenceLo := 1 }, 0, 0, { ring with lossless := true }, heldLine, by decide⟩⟩

theorem meets_WatchOrders :
    (∃ (s : State) (k : SlotId) (i : WatchId) (f : WatchFields), Operating s ∧ (s.slot k).st ≠ .accepted ∧ watchSetOf (slotParams
      s k) = some (i, f)) ∧
    (∃ (s : State) (k : SlotId) (i : WatchId) (f : WatchFields) (n : NodeId), Operating s ∧ (s.slot k).st ≠ .accepted ∧ indexOf
      (byteAt (slotParams s k) 0) = some i ∧ (s.watchEntry i).fields = some f ∧ (s.watchEntry i).valid = true ∧
      f.nodeSet.getLsbD n.val = true) :=
  ⟨⟨State.reset.store (slotAddr 0 + 0x38) [31, 2, 1, 0, 1, 2, 0, 0, 0, 0, 0, 0, 0x5D], 0, 31, note, by decide⟩,
    ⟨State.reset.modWatch 0 fun e => { e with valid := true, fields := some note }, 0, 0, note, 1, by decide⟩⟩

theorem meets_PairsFireAndHoldOff_1 :
    ∃ (s : State) (i : WatchId) (n : NodeId), Operating s ∧ ranOut (s.pair i n).holdoffT = true :=
  ⟨State.reset.modPair 0 1 fun p => { p with holdoffT := some spent }, 0, 1, by decide⟩

theorem meets_PairsFireAndHoldOff_2 :
    (∃ (s : State) (i : WatchId) (n : NodeId) (f : WatchFields), (s.watchEntry i).fields = some f ∧ f.action = .note ∧ (s.pair i
      n).holdoffT ≠ none) ∧
    (∃ (s : State) (i : WatchId) (n : NodeId) (f : WatchFields), (s.watchEntry i).fields = some f ∧ f.action = .mark ∧ (s.pair i
      n).holdoffT ≠ none) ∧
    (∃ (s : State) (i : WatchId) (n : NodeId) (f : WatchFields), (s.watchEntry i).fields = some f ∧ f.action = .note ∧ (s.pair i
      n).holdoffT = none) :=
  ⟨⟨(State.reset.modWatch 0 fun e => { e with valid := true, fields := some note }).modPair 0 1 fun p => { p with holdoffT := some spent }, 0, 1, note, by decide⟩,
    ⟨(State.reset.modWatch 31 fun e => { e with fields := some { note with action := .mark } }).modPair 31 3 fun p => { p with holdoffT := some lasting },
      31, 3, { note with action := .mark }, by decide⟩,
    ⟨State.reset.modWatch 0 fun e => { e with valid := true, fields := some note }, 0, 1, note, by decide⟩⟩

/-- Entry 0 has fired at node 1 and issues an action. -/
def acting (a : WatchAction) (g : Node → Node) : State :=
  (bay 1 g).modWatch 0 fun e => { e with valid := true, fields := some { note with action := a } }

/-- The hypotheses that every action has in common. -/
def Issues (s : State) (i : WatchId) (n : NodeId) (f : WatchFields) : Prop :=
  (s.watchEntry i).fields = some f ∧ (s.pair i n).holdoffT = none

theorem acting_issues (a : WatchAction) (g : Node → Node) : Issues (acting a g) 0 1 { note with action := a } :=
  ⟨rfl, rfl⟩

/-- MARK: no layout, room, and no room. -/
theorem meets_PairsFireAndHoldOff_3 :
    (∃ s i n f, Issues s i n f ∧ f.action = .mark ∧ (s.node n).jr.layout = none) ∧
    (∃ s i n f l, Issues s i n f ∧ f.action = .mark ∧ (s.node n).jr.layout = some l ∧
      (l.lossless = false ∨ l.body - ((s.node n).jr.bodyCount - (s.node n).jr.fence) ≠ 0)) ∧
    (∃ s i n f l, Issues s i n f ∧ f.action = .mark ∧ (s.node n).jr.layout = some l ∧
      ¬(l.lossless = false ∨ l.body - ((s.node n).jr.bodyCount - (s.node n).jr.fence) ≠ 0)) :=
  ⟨⟨_, _, _, _, acting_issues .mark id, by decide⟩,
    ⟨_, _, _, _, { ring with lossless := true },
      acting_issues .mark fun d => { d with jr.layout := some { ring with lossless := true }, jr.bodyCount := 7 }, by decide⟩,
    ⟨_, _, _, _, { ring with lossless := true },
      acting_issues .mark fun d => { d with jr.layout := some { ring with lossless := true }, jr.bodyCount := 8 }, by decide⟩⟩

/-- INJECT: an absent node, a full queue, no power, and an item that is queued as the fourth. -/
theorem meets_PairsFireAndHoldOff_4 :
    (∃ s i n f p, Issues s i n f ∧ f.action = .inject p ∧ (s.node n).sq.pst = .absent) ∧
    (∃ s i n f p, Issues s i n f ∧ f.action = .inject p ∧ (s.node n).sq.pst ≠ .absent ∧ 4 ≤ (s.node n).ch.txq.length) ∧
    (∃ s i n f p, Issues s i n f ∧ f.action = .inject p ∧ (s.node n).sq.pst ≠ .absent ∧ (s.node n).ch.txq.length < 4 ∧
      (s.node n).sq.pwrEn = false) ∧
    (∃ s i n f p, Issues s i n f ∧ f.action = .inject p ∧ (s.node n).sq.pst ≠ .absent ∧ (s.node n).ch.txq.length < 4 ∧
      (s.node n).sq.pwrEn = true) :=
  ⟨⟨_, _, _, _, _, acting_issues (.inject (.brk 10)) id, rfl, by decide⟩,
    ⟨_, _, _, _, _, acting_issues (.inject (.brk 10)) fun d =>
      { d with sq.pst := .running, ch.txq := [pulse, pulse, pulse, pulse] }, rfl, by decide⟩,
    ⟨_, _, _, _, _, acting_issues (.inject (.brk 10)) fun d => { d with sq.pst := .off }, rfl, by decide⟩,
    ⟨_, _, _, _, _, acting_issues (.inject (.brk 10)) fun d => { d with sq.pst := .running, ch.txq := [pulse, pulse, pulse] }, rfl,
      by decide⟩⟩

/-- ORDER: an absent node, a node with an order, a state that does not take the code, no budget, and each code accepted. -/
theorem meets_PairsFireAndHoldOff_5 :
    (∃ s i n f c flags, Issues s i n f ∧ f.action = .power c flags ∧ flags &&& ~~~c.ownFlags = 0 ∧
      (s.node n).sq.pst = .absent) ∧
    (∃ s i n f c flags, Issues s i n f ∧ f.action = .power c flags ∧ flags &&& ~~~c.ownFlags = 0 ∧
      (s.node n).sq.pst ≠ .absent ∧ c ∈ [PowerCode.powerOff, .nmi] ∧ (s.node n).sq.order ≠ none) ∧
    (∃ s i n f c flags, Issues s i n f ∧ f.action = .power c flags ∧ flags &&& ~~~c.ownFlags = 0 ∧
      (s.node n).sq.pst ≠ .absent ∧ (s.node n).sq.order = none ∧ (s.node n).sq.pst ∉ c.states) ∧
    (∃ s i n f c flags, Issues s i n f ∧ f.action = .power c flags ∧ flags &&& ~~~c.ownFlags = 0 ∧
      (s.node n).sq.pst ≠ .absent ∧ (s.node n).sq.order = none ∧ (s.node n).sq.pst ∈ c.states ∧ c = .cycle ∧
      (s.node n).sq.profile.inrushW > s.shelf.limit) ∧
    (∀ c ∈ [PowerCode.powerOff, .forceOff, .reset, .cycle, .nmi], ∃ s i n f flags, Issues s i n f ∧
      f.action = .power c flags ∧ flags &&& ~~~c.ownFlags = 0 ∧ (s.node n).sq.pst ≠ .absent ∧ (s.node n).sq.order = none ∧
      (s.node n).sq.pst ∈ c.states ∧ (s.node n).sq.profile.inrushW ≤ s.shelf.limit) :=
  ⟨⟨_, _, _, _, _, _, acting_issues (.power .nmi 0) id, rfl, by decide⟩,
    ⟨_, _, _, _, _, _, acting_issues (.power .nmi 0) fun d => { d with sq.pst := .running, sq.order := some (order .reset 0) }, rfl,
      by decide⟩,
    ⟨_, _, _, _, _, _, acting_issues (.power .nmi 0) fun d => { d with sq.pst := .off }, rfl, by decide⟩,
    ⟨_, _, _, _, _, _, acting_issues (.power .cycle 0) fun d => { d with sq.pst := .running, sq.profile.inrushW := 1 }, rfl,
      by decide⟩,
    fun c hc => ⟨_, _, _, _, _, acting_issues (.power c 0) fun d => { d with sq.pst := .running }, rfl, by
      revert c; decide⟩⟩

/-- CAPTURE, BOOT_DONE outside and in BOOTING, under a POWER_ON and under an NMI, and FREEZE_TAIL with its four answers. -/
theorem meets_PairsFireAndHoldOff_6 :
    (∃ s i n f k, Issues s i n f ∧ f.action = .capture k) ∧
    (∃ s i n f, Issues s i n f ∧ f.action = .bootDone ∧ (s.node n).sq.pst ≠ .booting) ∧
    (∃ s i n f o, Issues s i n f ∧ f.action = .bootDone ∧ (s.node n).sq.pst = .booting ∧ (s.node n).sq.order = some o ∧
      (o.code = .powerOn ∨ o.code = .cycle)) ∧
    (∃ s i n f o, Issues s i n f ∧ f.action = .bootDone ∧ (s.node n).sq.pst = .booting ∧ (s.node n).sq.order = some o ∧
      ¬(o.code = .powerOn ∨ o.code = .cycle)) ∧
    (∃ s i n f, Issues s i n f ∧ f.action = .freezeTail ∧ (s.node n).jr.layout = none) ∧
    (∃ s i n f l, Issues s i n f ∧ f.action = .freezeTail ∧ (s.node n).jr.layout = some l ∧ l.tail = 0) ∧
    (∃ s i n f l, Issues s i n f ∧ f.action = .freezeTail ∧ (s.node n).jr.layout = some l ∧ l.tail ≠ 0 ∧
      (s.node n).jr.tail.held = true) ∧
    (∃ s i n f l, Issues s i n f ∧ f.action = .freezeTail ∧ (s.node n).jr.layout = some l ∧ l.tail ≠ 0 ∧
      (s.node n).jr.tail.held = false) :=
  ⟨⟨_, _, _, _, _, acting_issues (.capture 63) id, rfl⟩,
    ⟨_, _, _, _, acting_issues .bootDone id, rfl, by decide⟩,
    ⟨_, _, _, _, order .powerOn 0, acting_issues .bootDone fun d =>
      { d with sq.pst := .booting, sq.order := some (order .powerOn 0) }, by decide⟩,
    ⟨_, _, _, _, order .nmi 0, acting_issues .bootDone fun d => { d with sq.pst := .booting, sq.order := some (order .nmi 0) },
      by decide⟩,
    ⟨_, _, _, _, acting_issues .freezeTail id, by decide⟩,
    ⟨_, _, _, _, { ring with tail := 0 }, acting_issues .freezeTail fun d => { d with jr.layout := some { ring with tail := 0 } },
      by decide⟩,
    ⟨_, _, _, _, ring, acting_issues .freezeTail fun d => { d with jr.layout := some ring, jr.tail.held := true }, by decide⟩,
    ⟨_, _, _, _, ring, acting_issues .freezeTail fun d => { d with jr.layout := some ring }, by decide⟩⟩

/-- The NMI of entry 31 ends while the pair still shows ACCEPTED, and after a later firing was refused BUSY. -/
theorem meets_PairsFireAndHoldOff_7 :
    ∀ r ∈ [LastResult.accepted, .ended .busy], ∃ (s : State) (i : WatchId) (n : NodeId) (o : PowerOrder),
      Operating s ∧ Ample s ∧ ((s.node n).sq.pst = .booting ∨ (s.node n).sq.pst = .running) ∧
      ranOut (s.node n).sq.nmiT = true ∧ (s.node n).sq.order = some o ∧ o.src = .watch i ∧ (s.pair i n).result = r :=
  fun r h => ⟨(bay 1 fun d =>
      { d with sq.pst := .running, sq.nmiT := some spent, sq.order := some { order .nmi 0 with src := .watch 31 } }).modPair 31 1
        fun p => { p with result := r }, 31, 1, { order .nmi 0 with src := .watch 31 }, by revert r; decide⟩

/-- The byte that two entries match, of section 6.8. -/
theorem meets_PairsFireAndHoldOff_8 :
    ∃ (s : State) (n : NodeId) (b : Byte),
      Operating s ∧ (s.node n).ch.framer = .frame { dataBits := 8, parity := .none, stopBits := 1 } ∧
      (List.finRange 32).filter (fun i =>
        entryMatches (s.watchEntry i) n (((s.node n).hist ++ [b]).drop ((s.node n).hist.length - 23))) = [2, 5] :=
  ⟨doubleA, 1, 0x61, by decide⟩

theorem meets_AttachAndDetach_1 :
    ∃ (s : State) (k : SlotId) (n : NodeId) (g : AttachFigures), Operating s ∧ (s.slot k).st ≠ .accepted ∧ (s.node n).att.st =
      .none ∧ (s.node n).jr.layout = none ∧ attachOf (slotParams s k) = some g :=
  ⟨State.reset.store (slotAddr 0 + 0x38) (le32 1 ++ [0, 8, 1, 0] ++ le32 100 ++ le32 100 ++ List.replicate 40 0x20), 0, 0, smallDisk, by decide +kernel⟩

theorem meets_AttachAndDetach_2 :
    ∃ (s : State) (k : SlotId) (n : NodeId) (flags : Byte), Operating s ∧ (s.slot k).st ≠ .accepted ∧ (flags = 0 ∨ flags =
      flagForce) ∧ (s.node n).att.st = .attached ∧ s.ownedCount n = 0 ∧ (s.node n).att.dirty = [] ∧ (s.node n).port.cmd =
      none ∧ s.waits = [] ∧ (s.node n).sq.prefetch ≠ .waiting ∧ (s.node n).jr.layout = none :=
  ⟨bay 0 fun d => { d with att.st := .attached, att.fig := smallDisk }, 0, 0, 4, by decide⟩

theorem meets_TransferReturns :
    (∃ (s : State) (e : EntryId) (f : FrameId) (n : NodeId) (t : Nat), Operating s ∧ (s.entry e).frame = f ∧ (s.frame f).own =
      some (n, t) ∧ (s.frame f).expired = false ∧ (s.node n).att.st = .attached ∧ (s.node n).port.cmd = none ∧ (s.node
      n).sq.prefetch ≠ .waiting ∧ (s.node n).sq.pst ≠ .gated ∧ s.waitList = [] ∧ s.waits = [] ∧ (s.entry e).st =
      .fetchPosted) ∧
    (∃ (s : State) (e : EntryId) (f : FrameId) (n : NodeId) (t : Nat), Operating s ∧ (s.entry e).frame = f ∧ (s.frame f).own =
      some (n, t) ∧ (s.frame f).expired = false ∧ (s.node n).att.st = .attached ∧ (s.node n).port.cmd = none ∧ (s.node
      n).sq.prefetch ≠ .waiting ∧ (s.node n).sq.pst ≠ .gated ∧ s.waitList = [] ∧ s.waits = [] ∧ (s.entry e).st =
      .flushPosted ∧ (s.node n).att.detach = none ∧ ((s.node n).att.dirty.filter (· ≠ f) ++ [f]).length < (s.node
      n).att.fig.dirtyLimit) ∧
    (∃ (s : State) (e : EntryId) (f : FrameId) (n : NodeId) (t : Nat), Operating s ∧ (s.entry e).frame = f ∧ (s.frame f).own =
      some (n, t) ∧ (s.frame f).expired = false ∧ (s.node n).att.st = .attached ∧ (s.node n).port.cmd = none ∧ (s.node
      n).sq.prefetch ≠ .waiting ∧ (s.node n).sq.pst ≠ .gated ∧ s.waitList = [] ∧ s.waits = [] ∧ (s.entry e).st = .free) :=
  ⟨⟨((bay 0 fun d => { d with att.st := .attached, att.fig := { smallDisk with dirtyLimit := 2 } }).modFrame 95 fun x => { x with st := .filling, own := some (0, 0) }).modEntry 31 fun x => { x with st := .fetchPosted, frame := 95 }, 31, 95, 0, 0, by decide⟩,
    ⟨((bay 0 fun d => { d with att.st := .attached, att.fig := { smallDisk with dirtyLimit := 2 } }).modFrame 95 fun x => { x with st := .flushing, own := some (0, 0) }).modEntry 31 fun x => { x with st := .flushPosted, frame := 95 }, 31, 95, 0, 0, by decide⟩,
    ⟨((bay 0 fun d => { d with att.st := .attached, att.fig := { smallDisk with dirtyLimit := 2 } }).modFrame 95 fun x => { x with st := .clean, own := some (0, 0) }).modEntry 31 fun x => { x with st := .free, frame := 95 }, 31, 95, 0, 0, by decide⟩⟩

theorem meets_MediaTimers :
    (∃ (s : State) (n : NodeId) (c : PortCmd) (f : FrameId), Operating s ∧ ranOut (s.node n).port.waitT = true ∧ (s.node n).port.cmd =
      some c ∧ c.kind = .read ∧ s.counterFrame n c = some f ∧ (s.frame f).st = .filling ∧ s.waits = [] ∧ s.ownedIn n
      .assembling = 0) ∧
    (∃ (s : State) (n : NodeId) (f : FrameId) (e : EntryId) (t : Nat), Operating s ∧ ranOut (s.frame f).ageT = true ∧ (s.frame f).st =
      .dirty ∧ (s.frame f).own = some (n, t) ∧ (s.node n).port.cmd = none ∧ s.waitList = [] ∧ s.freeEntry = some e) :=
  ⟨⟨(bay 0 fun d => { d with att.st := .attached, att.fig := smallDisk, port.cmd := some (window .read 0), port.waitT := some spent }).modFrame 0 fun x => { x with st := .filling, own := some (0, 0) }, 0, window .read 0, 0, by decide⟩,
    ⟨(bay 0 fun d => { d with att.st := .attached, att.fig := smallDisk }).modFrame 0 fun x => { x with st := .dirty, own := some (0, 0), ageT := some spent }, 0, 0, 0, 0, by decide⟩⟩

theorem meets_PortCommandsAccepted_1 :
    ∃ (s : State) (n : NodeId), Operating s ∧ s.busy n = false ∧ (s.node n).att.st = .attached ∧ (s.node n).port.changed = false
      ∧ (s.node n).att.dirty = [] ∧ s.ownedIn n .dirty = 0 ∧ s.ownedIn n .assembling = 0 ∧ s.ownedIn n .flushing = 0 ∧
      s.waits = [] :=
  ⟨bay 0 fun d => { d with att.st := .attached, att.fig := smallDisk }, 0, by decide⟩

theorem meets_PortCommandsAccepted_2 :
    (∃ (s : State) (n : NodeId) (f : FrameId),
      let t := (s.node n).port.block.toNat / 8
      Operating s ∧ s.busy n = false ∧ (s.node n).att.st = .attached ∧ (s.node n).port.changed = false ∧ 1 ≤ (s.node
      n).port.count.toNat ∧ (s.node n).port.count.toNat ≤ 64 ∧ (s.node n).port.block.toNat + (s.node n).port.count.toNat ≤
      (s.node n).att.fig.capacity ∧ (s.node n).port.block.toNat % 8 + (s.node n).port.count.toNat ≤ 8 ∧ s.owned n t = some f
      ∧ (s.frame f).st = .clean ∧ (s.node n).att.fig.readOnly = false) ∧
    (∃ (s : State) (n : NodeId) (f : FrameId) (e : EntryId),
      let t := (s.node n).port.block.toNat / 8
      Operating s ∧ s.busy n = false ∧ (s.node n).att.st = .attached ∧ (s.node n).port.changed = false ∧ 1 ≤ (s.node
      n).port.count.toNat ∧ (s.node n).port.count.toNat ≤ 64 ∧ (s.node n).port.block.toNat + (s.node n).port.count.toNat ≤
      (s.node n).att.fig.capacity ∧ (s.node n).port.block.toNat % 8 + (s.node n).port.count.toNat ≤ 8 ∧ s.owned n t = none ∧
      s.ownedCount n < (s.node n).att.fig.quota ∧ (allFrames.find? fun g => (s.frame g).st = .free) = some f ∧ (s.frame f).own
      = none ∧ s.freeEntry = some e) :=
  ⟨⟨(bay 0 fun d => { d with att.st := .attached, att.fig := smallDisk, port.count := 1 }).modFrame 95 fun x => { x with st := .clean, own := some (0, 0) }, 0, 95, by decide⟩,
    ⟨bay 0 fun d => { d with att.st := .attached, att.fig := { smallDisk with capacity := 8 }, port.count := 8 }, 0, 0, 0, by decide⟩⟩

theorem meets_DataPortAccesses_1 :
    (∃ (s : State) (n : NodeId),
      let p := (s.node n).port
      WaitsSettled s ∧ (∀ c ∈ p.cmd, (c.kind ≠ .read ∧ c.kind ≠ .identify) ∨ s.data n = false) ∧ (∀ c ∈ p.cmd, c.kind ≠
      .write ∨ s.data n = false)) ∧
    (∃ (s : State) (n : NodeId) (c : PortCmd),
      let p := (s.node n).port
      WaitsSettled s ∧ p.cmd = some c ∧ c.kind = .identify ∧ p.rst = false ∧ c.counter < 508) ∧
    (∃ (s : State) (n : NodeId) (c : PortCmd),
      let p := (s.node n).port
      WaitsSettled s ∧ p.cmd = some c ∧ c.kind = .identify ∧ p.rst = false ∧ c.counter = 508 ∧ s.waits = [] ∧ s.ownedIn n
      .assembling = 0) ∧
    (∃ (s : State) (n : NodeId) (c : PortCmd) (f : FrameId),
      let p := (s.node n).port
      WaitsSettled s ∧ p.cmd = some c ∧ c.kind = .read ∧ s.data n = true ∧ s.counterFrame n c = some f ∧ (s.frame f).st =
      .dirty ∧ c.counter % 4 = 0 ∧ (c.counter + 4) % 4096 ≠ 0 ∧ c.counter + 4 < c.stop) ∧
    (∃ (s : State) (n : NodeId) (c : PortCmd) (f : FrameId),
      let p := (s.node n).port
      WaitsSettled s ∧ s.init = false ∧ p.cmd = some c ∧ c.kind = .write ∧ s.data n = true ∧ s.counterFrame n c = some f ∧
      (s.frame f).st = .dirty ∧ (c.counter + 4) % 4096 ≠ 0 ∧ c.counter % 4096 < 4093 ∧ c.counter + 4 < c.stop) :=
  ⟨⟨State.reset, 0, by decide⟩,
    ⟨(bay 0 fun d => { d with att.st := .attached, att.fig := smallDisk, port.cmd := some (window .identify 504) }).modFrame 0 fun x => { x with st := .dirty, own := some (0, 0) }, 0, window .identify 504, by decide⟩,
    ⟨(bay 0 fun d => { d with att.st := .attached, att.fig := smallDisk, port.cmd := some (window .identify 508) }).modFrame 0 fun x => { x with st := .dirty, own := some (0, 0) }, 0, window .identify 508, by decide⟩,
    ⟨(bay 0 fun d => { d with att.st := .attached, att.fig := smallDisk, port.cmd := some (window .read 504) }).modFrame 0 fun x => { x with st := .dirty, own := some (0, 0) }, 0, window .read 504, 0, by decide⟩,
    ⟨(bay 0 fun d => { d with att.st := .attached, att.fig := smallDisk, port.cmd := some (window .write 504) }).modFrame 0 fun x => { x with st := .dirty, own := some (0, 0) }, 0, window .write 504, 0, by decide⟩⟩

/-- Node 0 has a READ or WRITE of sixteen blocks at a counter; frames 0 and 1 hold its tags 0 and 1, and frame 2 is DIRTY with tag 2. -/
def inWindow (k : MediaCmd) (counter limit : Nat) (st st1 : FrameState) (dirty : List FrameId) : State :=
  let s := bay 0 fun d => { d with
    att.st := .attached, att.fig := { smallDisk with capacity := 100, dirtyLimit := limit }, att.dirty := dirty,
    port.cmd := some { kind := k, first := 0, count := 16, counter := counter, moved := false } }
  let s := s.modFrame 0 fun x => { x with st := st, own := some (0, 0) }
  let s := s.modFrame 1 fun x => { x with st := st1, own := if st1 = .free then none else some (0, 1) }
  s.modFrame 2 fun x => { x with st := .dirty, own := some (0, 2) }

/-- The command of `inWindow`. -/
def sixteen (k : MediaCmd) (counter : Nat) : PortCmd := { kind := k, first := 0, count := 16, counter := counter, moved := false }

/-- The hypotheses that every access of a frame has in common. -/
abbrev Accesses (s : State) (n : NodeId) (c : PortCmd) (f : FrameId) : Prop :=
  Operating s ∧ (s.node n).port.cmd = some c ∧ s.data n = true ∧ s.counterFrame n c = some f ∧ c.counter % 4 = 0

/-- A write word that joins its frame to the DIRTY frames. -/
abbrev Joins (s : State) (c : PortCmd) (f : FrameId) : Prop :=
  (s.frame f).st = .clean ∨ (s.frame f).st = .assembling ∧ c.counter + 4 = min c.stop ((c.counter / 4096 + 1) * 4096)

/-- The DIRTY frames reach the limit with this one. -/
abbrev Full (s : State) (n : NodeId) (f : FrameId) : Prop :=
  (s.node n).att.fig.dirtyLimit ≤ ((s.node n).att.dirty.filter (· ≠ f) ++ [f]).length

/-- Within a frame: the last but one word of a CLEAN frame read and written, of an ASSEMBLING frame, and the write that reaches the
dirty limit. -/
theorem meets_DataPortAccesses_2 :
    (∃ s n c f, Accesses s n c f ∧ (c.counter + 4) % 4096 ≠ 0 ∧ c.counter + 4 < c.stop ∧ c.kind = .read ∧
      (s.frame f).st = .clean) ∧
    (∃ s n c f, Accesses s n c f ∧ (c.counter + 4) % 4096 ≠ 0 ∧ c.counter + 4 < c.stop ∧ c.kind = .write ∧
      (s.frame f).st = .clean ∧ ¬(Joins s c f ∧ Full s n f)) ∧
    (∃ s n c f, Accesses s n c f ∧ (c.counter + 4) % 4096 ≠ 0 ∧ c.counter + 4 < c.stop ∧ c.kind = .write ∧
      (s.frame f).st = .assembling ∧ ¬(Joins s c f ∧ Full s n f)) ∧
    (∃ s n c f g e t, Accesses s n c f ∧ (c.counter + 4) % 4096 ≠ 0 ∧ c.counter + 4 < c.stop ∧ c.kind = .write ∧
      Joins s c f ∧ Full s n f ∧ (s.node n).att.dirty.head? = some g ∧ g ≠ f ∧ s.flushWaits g = false ∧
      (s.frame g).st = .dirty ∧ (s.frame g).own = some (n, t) ∧ s.freeEntry = some e) :=
  ⟨⟨inWindow .read 4088 2 .clean .clean [2], 0, sixteen .read 4088, 0, by decide⟩,
    ⟨inWindow .write 4088 3 .clean .clean [2], 0, sixteen .write 4088, 0, by decide⟩,
    ⟨inWindow .write 4088 2 .assembling .clean [2], 0, sixteen .write 4088, 0, by decide⟩,
    ⟨inWindow .write 4088 2 .clean .clean [2], 0, sixteen .write 4088, 0, 2, 0, 2, by decide⟩⟩

/-- The step into the next frame: resident, FILLING, ASSEMBLING under a WRITE, and without a frame under a READ. -/
theorem meets_DataPortAccesses_3 :
    (∃ s n c f g, Accesses s n c f ∧ (c.counter + 4) % 4096 = 0 ∧ c.counter + 4 < c.stop ∧ s.waits = [] ∧
      s.owned n (c.counter / 4096 + 1) = some g ∧ (s.frame g).st = .clean ∧ c.kind = .read) ∧
    (∃ s n c f g, Accesses s n c f ∧ (c.counter + 4) % 4096 = 0 ∧ c.counter + 4 < c.stop ∧ s.waits = [] ∧
      s.owned n (c.counter / 4096 + 1) = some g ∧ (s.frame g).st = .filling ∧ c.kind = .read) ∧
    (∃ s n c f g, Accesses s n c f ∧ (c.counter + 4) % 4096 = 0 ∧ c.counter + 4 < c.stop ∧ s.waits = [] ∧
      s.owned n (c.counter / 4096 + 1) = some g ∧ (s.frame g).st = .assembling ∧ c.kind = .write ∧
      (s.frame f).st = .assembling ∧ ¬(Joins s c f ∧ Full s n f)) ∧
    (∃ s n c f g e, Accesses s n c f ∧ (c.counter + 4) % 4096 = 0 ∧ c.counter + 4 < c.stop ∧ s.waits = [] ∧ c.kind = .read ∧
      s.owned n (c.counter / 4096 + 1) = none ∧ s.ownedCount n < (s.node n).att.fig.quota ∧
      (allFrames.find? fun h => (s.frame h).st = .free) = some g ∧ (s.frame g).own = none ∧ s.freeEntry = some e) :=
  ⟨⟨inWindow .read 4092 2 .dirty .clean [2], 0, sixteen .read 4092, 0, 1, by decide⟩,
    ⟨inWindow .read 4092 2 .flushing .filling [2], 0, sixteen .read 4092, 0, 1, by decide⟩,
    ⟨inWindow .write 4092 3 .assembling .assembling [2], 0, sixteen .write 4092, 0, 1, by decide⟩,
    ⟨inWindow .read 4092 2 .clean .free [2], 0, sixteen .read 4092, 0, 1, 0, by decide⟩⟩

/-- The end of a window, in its second frame. -/
theorem meets_DataPortAccesses_4 :
    (∃ s n c f, Accesses s n c f ∧ c.counter + 4 = c.stop ∧ s.waits = [] ∧
      (∀ h, h ≠ f → (s.frame h).st = .assembling → (s.frame h).ownedBy n = false) ∧ c.kind = .read) ∧
    (∃ s n c f, Accesses s n c f ∧ c.counter + 4 = c.stop ∧ s.waits = [] ∧
      (∀ h, h ≠ f → (s.frame h).st = .assembling → (s.frame h).ownedBy n = false) ∧ c.kind = .write ∧
      (s.frame f).st = .assembling ∧ ¬(Joins s c f ∧ Full s n f)) :=
  ⟨⟨inWindow .read 8188 2 .clean .clean [2], 0, sixteen .read 8188, 1, by decide⟩,
    ⟨inWindow .write 8188 3 .clean .assembling [2], 0, sixteen .write 8188, 1, by decide⟩⟩

theorem meets_PortStatusAndReset :
    (∃ (s : State) (n : NodeId), Operating s ∧ s.hold = false ∧ (s.node n).port.rst = false ∧ (s.node n).port.cmd = none) ∧
    (∃ (s : State) (n : NodeId), Operating s ∧ s.hold = false ∧ (s.node n).port.rst = true ∧ (s.node n).port.cmd = none) :=
  ⟨⟨State.reset, 0, by decide⟩,
    ⟨bay 0 fun d => { d with port.rst := true }, 0, by decide⟩⟩

theorem meets_ExchangeWrites_1 :
    (∃ (s : State) (word : BitVec 18) (lanes : BitVec 4),
      let a := word.toNat * 4
      WaitsSettled s ∧ lanes ≠ 0 ∧ 0xB0000 ≤ a) ∧
    (∃ (s : State) (word : BitVec 18) (lanes : BitVec 4),
      let a := word.toNat * 4
      WaitsSettled s ∧ lanes ≠ 0 ∧ s.init = false ∧ 0x4800 ≤ a ∧ a < 0x10000) ∧
    (∃ (s : State) (word : BitVec 18) (lanes : BitVec 4) (k : SlotId),
      let a := word.toNat * 4
      WaitsSettled s ∧ lanes ≠ 0 ∧ s.init = false ∧ (s.slot k).st ≠ .accepted ∧ slotAddr k + 4 ≤ a ∧ a < slotAddr k + 0x100) ∧
    (∃ (s : State) (word : BitVec 18) (lanes : BitVec 4) (k : SlotId),
      let a := word.toNat * 4
      WaitsSettled s ∧ lanes ≠ 0 ∧ s.init = false ∧ (s.slot k).st = .accepted ∧ slotAddr k ≤ a ∧ a < slotAddr k + 0x100) ∧
    (∃ (s : State) (word : BitVec 18) (lanes : BitVec 4),
      let a := word.toNat * 4
      WaitsSettled s ∧ lanes ≠ 0 ∧ 0x10000 ≤ a ∧ a < 0x50000) ∧
    (∃ (s : State) (word : BitVec 18) (lanes : BitVec 4),
      let a := word.toNat * 4
      WaitsSettled s ∧ lanes ≠ 0 ∧ s.init = true ∧ a < 0xB0000) ∧
    (∃ (s : State) (word : BitVec 18) (lanes : BitVec 4),
      let a := word.toNat * 4
      WaitsSettled s ∧ lanes ≠ 0 ∧ s.init = false ∧ a < 0x100 ∧ (a ≠ 0x08 ∨ lanes ≠ 0xF)) ∧
    (∃ (s : State) (word : BitVec 18) (lanes : BitVec 4),
      let a := word.toNat * 4
      WaitsSettled s ∧ lanes ≠ 0 ∧ s.init = false ∧ 0x3000 ≤ a ∧ a < 0x4800) ∧
    (∃ (s : State) (word : BitVec 18) (lanes : BitVec 4),
      let a := word.toNat * 4
      WaitsSettled s ∧ lanes ≠ 0 ∧ s.init = false ∧ 0x500 ≤ a ∧ a < 0x800) ∧
    (∃ (s : State) (word : BitVec 18) (lanes : BitVec 4) (n : NodeId) (o : Nat),
      let a := word.toNat * 4
      WaitsSettled s ∧ lanes ≠ 0 ∧ s.init = false ∧ a = 0x100 + n.val * 0x100 + o ∧ o < 0x100 ∧ o ∉ [0x08, 0x0C, 0x10]) ∧
    (∃ (s : State) (word : BitVec 18) (lanes : BitVec 4) (e : EntryId) (o : Nat),
      let a := word.toNat * 4
      WaitsSettled s ∧ lanes ≠ 0 ∧ s.init = false ∧ a = 0x800 + e.val * 0x40 + o ∧ o < 0x40 ∧
        (o ∉ [0x00, 0x18] ∨ o = 0x18 ∧ (s.entry e).st = .free)) ∧
    (∃ (s : State) (word : BitVec 18) (lanes : BitVec 4) (n : NodeId) (k : SlotId) (e : EntryId),
      let a := word.toNat * 4
      WaitsSettled s ∧ lanes ≠ 0 ∧ s.init = false ∧ lanes ≠ 0xF ∧
        a ∈ [0x100 + n.val * 0x100 + 0x08, 0x100 + n.val * 0x100 + 0x10, slotAddr k, 0x800 + e.val * 0x40]) ∧
    (∃ (s : State) (word : BitVec 18) (lanes : BitVec 4) (n : NodeId),
      let a := word.toNat * 4
      WaitsSettled s ∧ lanes ≠ 0 ∧ s.init = false ∧ a = 0x100 + n.val * 0x100 + 0x0C) ∧
    (∃ (s : State) (word : BitVec 18) (lanes : BitVec 4) (e : EntryId),
      let a := word.toNat * 4
      WaitsSettled s ∧ lanes ≠ 0 ∧ s.init = false ∧ a = 0x800 + e.val * 0x40 + 0x18 ∧ (s.entry e).st ≠ .free) :=
  ⟨⟨State.reset, 0x2C000, 1, by decide⟩,
    ⟨State.reset, 0x1200, 1, by decide⟩,
    ⟨State.reset, 0xBC1, 1, 31, by decide⟩,
    ⟨State.reset.modSlot 31 fun c => { c with st := .accepted }, 0xBFF, 1, 31, by decide⟩,
    ⟨State.reset, 0x13FFF, 1, by decide⟩,
    ⟨{ State.reset with init := true }, 0x2BFFF, 1, by decide⟩,
    ⟨State.reset, 2, 7, by decide⟩,
    ⟨State.reset, 0x11FF, 15, by decide⟩,
    ⟨State.reset, 0x1FF, 15, by decide⟩,
    ⟨State.reset, 0x13F, 15, 3, 0xFC, by decide⟩,
    ⟨State.reset, 0x3F6, 1, 31, 0x18, by decide⟩,
    ⟨State.reset, 0xBC0, 7, 0, 31, 0, by decide⟩,
    ⟨State.reset, 0x103, 1, 3, by decide⟩,
    ⟨State.reset.modEntry 31 fun x => { x with st := .flushPosted }, 0x3F6, 1, 31, by decide⟩⟩

/-- The host may fill a frame: it is FILLING and its fetch is posted. -/
abbrev Fillable (s : State) (f : FrameId) : Prop :=
  (s.frame f).st = .filling ∧ ∃ e : EntryId, (s.entry e).st = .fetchPosted ∧ (s.entry e).frame = f

/-- Frame 95 is FILLING, and entry 31 holds its fetch. -/
def filling : State :=
  (State.reset.modFrame 95 fun x => { x with st := .filling }).modEntry 31 fun x => { x with st := .fetchPosted, frame := 95 }

/-- The frame area: the last word of a frame that is filled, the first of one that is not, and one FILLING whose fetch waits. -/
theorem meets_ExchangeWrites_2 :
    (∃ (s : State) (word : BitVec 18) (f : FrameId) (o : Nat),
      Operating s ∧ word.toNat * 4 = 0x50000 + f.val * 4096 + o ∧ o < 4096 ∧ Fillable s f) ∧
    (∃ (s : State) (word : BitVec 18) (f : FrameId) (o : Nat),
      Operating s ∧ word.toNat * 4 = 0x50000 + f.val * 4096 + o ∧ o < 4096 ∧ (s.frame f).st ≠ .filling ∧ ¬Fillable s f) ∧
    (∃ (s : State) (word : BitVec 18) (f : FrameId) (o : Nat),
      Operating s ∧ word.toNat * 4 = 0x50000 + f.val * 4096 + o ∧ o < 4096 ∧ (s.frame f).st = .filling ∧ ¬Fillable s f) :=
  ⟨⟨filling, 0x2BFFF, 95, 4092, by decide⟩,
    ⟨filling, 0x14000, 0, 0, by decide⟩,
    ⟨State.reset.modFrame 0 fun x => { x with st := .filling }, 0x143FF, 0, 4092, by decide⟩⟩

/-- A slot's state word FREE, POSTED with a header, and another value; an acknowledgement and a fence word. -/
theorem meets_ExchangeWrites_3 :
    (∃ (s : State) (word : BitVec 18) (k : SlotId) (data : Word),
      Operating s ∧ word.toNat * 4 = slotAddr k ∧ (s.slot k).st ≠ .accepted ∧ data = 0) ∧
    (∃ (s : State) (word : BitVec 18) (k : SlotId) (data : Word) (code target flags : Byte),
      Operating s ∧ word.toNat * 4 = slotAddr k ∧ (s.slot k).st ≠ .accepted ∧ data = 1 ∧ MemInv s ∧
      s.mem.readRun (slotAddr k + 4) 4 = [code, target, flags, 0]) ∧
    (∃ (s : State) (word : BitVec 18) (k : SlotId) (data : Word),
      Operating s ∧ word.toNat * 4 = slotAddr k ∧ (s.slot k).st ≠ .accepted ∧ data ≠ 0 ∧ data ≠ 1) ∧
    (∃ (s : State) (word : BitVec 18) (n : NodeId), Operating s ∧ word.toNat * 4 = 0x100 + n.val * 0x100 + 0x08) ∧
    (∃ (s : State) (word : BitVec 18) (n : NodeId), Operating s ∧ word.toNat * 4 = 0x100 + n.val * 0x100 + 0x10) :=
  ⟨⟨State.reset, 0xBC0, 31, 0, by decide⟩,
    ⟨State.reset.store (slotAddr 31 + 4) [0x31, 3, 4, 0], 0xBC0, 31, 1, 0x31, 3, 4, by unfold MemInv; decide⟩,
    ⟨State.reset, 0x400, 0, 2, by decide⟩,
    ⟨State.reset, 0x102, 3, by decide⟩,
    ⟨State.reset, 0x44, 0, by decide⟩⟩

/-- An entry's state word in each of the entry's states. -/
theorem meets_ExchangeWrites_4 :
    ∀ st ∈ [EntryState.free, .fetchPosted, .flushPosted], ∃ (s : State) (word : BitVec 18) (e : EntryId),
      Operating s ∧ word.toNat * 4 = 0x800 + e.val * 0x40 ∧ (s.entry e).st = st :=
  fun st h => ⟨State.reset.modEntry 31 fun x => { x with st := st }, 0x3F0, 31, by revert st; decide⟩

theorem meets_AttentionRegisters_1 :
    (∃ (s : State), WaitsSettled s ∧ s.init = true) ∧
    (∃ (s : State), WaitsSettled s ∧ s.init = false) :=
  ⟨⟨{ State.reset with init := true }, by decide⟩,
    ⟨State.reset, by decide⟩⟩

theorem meets_AttentionRegisters_2 :
    (∃ (s : State), (s.init = false ∨ s.hold = true)) ∧
    (∃ (s : State), s.init = true ∧ s.hold = false) :=
  ⟨⟨State.reset, by decide⟩,
    ⟨{ State.reset with init := true }, by decide⟩⟩

theorem meets_RegisterWrites :
    (∃ (s : State) (n : NodeId) (offset : Word), Operating s ∧ s.hold = false ∧ offset ∉ [0x04, 0x0C, 0x10] ∧ offset ∈ [0x04,
      0x14, 0x1C] ∧ s.busy n = false) ∧
    (∃ (s : State) (n : NodeId) (offset : Word), Operating s ∧ s.busy n = true ∧ offset ∈ [0x08, 0x0C]) ∧
    (∃ (s : State) (offset : Word), Operating s ∧ offset ∉ [0x00, 0x04, 0x08, 0x0C, 0x10, 0x14, 0x18, 0x1C]) :=
  ⟨⟨State.reset, 0, 0x14, by decide⟩,
    ⟨bay 0 fun d => { d with port.rst := true }, 0, 8, by decide⟩,
    ⟨State.reset, 0x20, by decide⟩⟩

theorem meets_SoftResetHoldBegins :
    ∃ (s : State), s.hold = false ∧ s.init = false :=
  ⟨State.reset, by decide⟩

theorem meets_SoftResetReleases :
    ∃ (s : State), s.hold = true ∧ s.init = true ∧ s.shelf.isOver = false ∧ s.shelf.queue = [] ∧ (∀ n, QuietNode s n ∧ (s.node
      n).sq.order = none ∧ (s.node n).sq.pst ≠ .queued ∧ (s.node n).port.waitT = none) ∧ (allNodes.map fun n => (s.node
      n).sq.profile.peak).sum ≤ s.shelf.cfg.bcfg * s.shelf.cfg.factor (supplyCount s.supplyA s.supplyB) / 100 :=
  ⟨{ State.reset with init := true, hold := true }.modSlot 31 fun c => { c with st := .accepted }, by decide⟩

theorem meets_FullResetAndInitialization :
    (∃ (s : State), s.init = true ∧ s.hold = false) ∧
    (∃ (s : State), (s.init = false ∨ s.hold = true)) :=
  ⟨⟨{ State.reset with init := true }, by decide⟩,
    ⟨State.reset, by decide⟩⟩

theorem meets_RecordsFollowChanges_1 :
    ∃ (s : State), (s.init = false ∨ s.hold = true) :=
  ⟨State.reset, by decide⟩

/-! Statements whose clauses are the branches of a chain: a state in each branch. -/

theorem meets_PowerOrderChecksInOrder_1 :
    (∃ (s : State) (n : NodeId), Operating s ∧ (s.slot 0).st ≠ .accepted ∧ (s.node n).sq.pst = .absent) ∧
    (∃ (s : State) (n : NodeId), Operating s ∧ (s.slot 0).st ≠ .accepted ∧ (s.node n).sq.pst ≠ .absent ∧
      PowerCode.powerOn ∈ [PowerCode.powerOn, .powerOff, .nmi] ∧ (s.node n).sq.order ≠ none) ∧
    (∃ (s : State) (n : NodeId) (flags : Byte), Operating s ∧ (s.slot 0).st ≠ .accepted ∧ (s.node n).sq.pst ≠ .absent ∧
      (s.node n).sq.order = none ∧ flags &&& ~~~PowerCode.powerOn.ownFlags ≠ 0) ∧
    (∃ (s : State) (n : NodeId), Operating s ∧ (s.slot 0).st ≠ .accepted ∧ (s.node n).sq.pst ≠ .absent ∧
      (s.node n).sq.order = none ∧ (s.node n).sq.pst ∉ PowerCode.powerOn.states) ∧
    (∃ (s : State) (n : NodeId), Operating s ∧ (s.slot 0).st ≠ .accepted ∧ (s.node n).sq.order = none ∧
      (s.node n).sq.pst ∈ PowerCode.powerOn.states ∧ (s.node n).sq.profile.inrushW > s.shelf.limit) :=
  ⟨⟨State.reset, 0, by decide⟩,
    ⟨bay 0 fun d => { d with sq.pst := .running, sq.order := some (order .nmi 0) }, 0, by decide⟩,
    ⟨bay 0 fun d => { d with sq.pst := .off }, 0, 2, by decide⟩,
    ⟨bay 0 fun d => { d with sq.pst := .queued }, 0, by decide⟩,
    ⟨bay 0 fun d => { d with sq.pst := .fault, sq.profile.inrushW := 1 }, 0, by decide⟩⟩

theorem meets_PowerOrderChecksInOrder_2 :
    (∃ (s : State) (n : NodeId), Operating s ∧ (s.slot 0).st ≠ .accepted ∧ (s.node n).sq.pst = .running ∧
      (s.node n).lv.hbWindow = 0 ∧ (s.node n).lv.silWindow = 0) ∧
    (∃ (s : State) (n : NodeId), Operating s ∧ (s.slot 0).st ≠ .accepted ∧ (s.node n).sq.pst = .running ∧
      (s.node n).lv.hbWindow ≠ 0 ∧ (s.node n).lv.hung = false) :=
  ⟨⟨bay 0 fun d => { d with sq.pst := .running }, 0, by decide⟩,
    ⟨bay 0 fun d => { d with sq.pst := .running, lv.hbWindow := 1000 }, 0, by decide⟩⟩

theorem meets_PortChecksInOrder :
    (∃ (s : State) (n : NodeId), Operating s ∧ s.busy n = true) ∧
    (∃ (s : State) (n : NodeId) (w : Word), Operating s ∧ s.busy n = false ∧ w ∉ [1, 2, 3, 4]) ∧
    (∃ (s : State) (n : NodeId), Operating s ∧ s.busy n = false ∧ (s.node n).att.st ≠ .attached) ∧
    (∃ (s : State) (n : NodeId), Operating s ∧ s.busy n = false ∧ (s.node n).att.st = .attached ∧
      (s.node n).port.changed = true) ∧
    (∃ (s : State) (n : NodeId), Operating s ∧ s.busy n = false ∧ (s.node n).att.st = .attached ∧
      (s.node n).port.changed = false ∧ (s.node n).port.count.toNat < 1) ∧
    (∃ (s : State) (n : NodeId), Operating s ∧ s.busy n = false ∧ (s.node n).att.st = .attached ∧
      (s.node n).port.changed = false ∧ 64 < (s.node n).port.count.toNat) ∧
    (∃ (s : State) (n : NodeId), Operating s ∧ s.busy n = false ∧ (s.node n).att.st = .attached ∧
      (s.node n).port.changed = false ∧ ¬(s.node n).port.count.toNat < 1 ∧ ¬64 < (s.node n).port.count.toNat ∧
      (s.node n).port.block.toNat + (s.node n).port.count.toNat > (s.node n).att.fig.capacity) ∧
    (∃ (s : State) (n : NodeId), Operating s ∧ s.busy n = false ∧ (s.node n).att.st = .attached ∧
      (s.node n).port.changed = false ∧ ¬(s.node n).port.count.toNat < 1 ∧ ¬64 < (s.node n).port.count.toNat ∧
      ¬(s.node n).port.block.toNat + (s.node n).port.count.toNat > (s.node n).att.fig.capacity ∧
      (s.node n).att.fig.readOnly = true) ∧
    (∃ (s : State) (n : NodeId), Operating s ∧ s.busy n = false ∧ (s.node n).att.st = .attached ∧
      (s.node n).port.changed = false ∧ ¬(s.node n).port.count.toNat < 1 ∧ ¬64 < (s.node n).port.count.toNat ∧
      ¬(s.node n).port.block.toNat + (s.node n).port.count.toNat > (s.node n).att.fig.capacity ∧
      (s.node n).att.fig.readOnly = false) :=
  ⟨⟨bay 1 fun d => { d with port.rst := true }, 1, by decide⟩, ⟨State.reset, 1, 5, by decide⟩, ⟨State.reset, 1, by decide⟩,
    ⟨driven fun p => { p with changed := true }, 1, by decide⟩, ⟨driven id, 1, by decide⟩,
    ⟨driven fun p => { p with count := 65 }, 1, by decide⟩, ⟨driven fun p => { p with block := 999999, count := 2 }, 1, by decide⟩,
    ⟨(driven fun p => { p with count := 64 }).modNode 1 fun d => { d with att.fig.readOnly := true }, 1, by decide⟩,
    ⟨driven fun p => { p with count := 1 }, 1, by decide⟩⟩

theorem meets_ParameterBlocksReadBack :
    (∃ c : BudgetCfg, c.bcfg ≤ 20000 ∧ c.headroom ≤ 20000 ∧ c.f2 ≤ 100 ∧ c.f1 ≤ c.f2 ∧ c.f0 ≤ c.f1 ∧ c.staggerMs ≤ 60000) ∧
    (∃ p : Profile, p.valid = true) ∧
    (∃ l : LivenessSettings, (l.hbWindow = 0 ∨ 1000 ≤ l.hbWindow ∧ l.hbWindow ≤ 600000) ∧
      (l.silWindow = 0 ∨ 1000 ≤ l.silWindow ∧ l.silWindow ≤ 3600000) ∧ l.limit ≤ 15) ∧
    (∃ u : UartSettings, 300 ≤ u.baud ∧ u.baud ≤ 3000000 ∧ (u.dataBits = 7 ∨ u.dataBits = 8) ∧ (u.stopBits = 1 ∨ u.stopBits = 2) ∧
      (u.idleFlushMs = 0 ∨ 10 ≤ u.idleFlushMs ∧ u.idleFlushMs ≤ 10000) ∧ baudError u.baud ≤ 30000) :=
  ⟨⟨budget, by decide⟩, ⟨Profile.default, by decide⟩, ⟨liveness, by decide⟩, ⟨{ UartSettings.default with baud := 3000000 }, by decide⟩⟩

theorem meets_RecordsFollowChanges_2 :
    ∃ (c : Instr) (s t : State) (n : NodeId),
      exec c s = .next t ∧ c ≠ .fullReset ∧ c ≠ .initializationEnd ∧ s.init = false ∧ c ≠ .deferredShowing n :=
  ⟨.eventAckWrite (.node 1) 1, State.reset, _, 1, rfl, by decide, by decide, by decide, by decide⟩

theorem meets_OrdersInProgressEnd :
    (∃ (s : State) (k j : SlotId) (n : NodeId) (o : PowerOrder), Operating s ∧ Ample s ∧ QuietNode s n ∧
      (s.node n).sq.order = some o ∧ o.src = .slot j ∧ (s.slot k).st ≠ .accepted ∧ j ≠ k ∧
      (s.node n).sq.pst ∈ [PState.inrush, .gated, .booting, .running, .stopping, .fault] ∧
      (s.node n).sq.profile.inrushW ≤ s.shelf.limit ∧ (s.node n).sq.pst.released = true ∧ (s.node n).pins.slpOff = false) ∧
    (∃ (s : State) (j : SlotId) (n : NodeId) (o : PowerOrder), Operating s ∧ Ample s ∧ QuietNode s n ∧
      (s.node n).sq.order = some o ∧ o.src = .slot j ∧ (s.node n).sq.pst = .inrush ∧ (s.node n).sq.pgSeen = true) ∧
    (∃ (s : State) (j : SlotId) (n : NodeId) (o : PowerOrder), Operating s ∧ Ample s ∧ QuietNode s n ∧
      (s.node n).sq.order = some o ∧ o.src = .slot j ∧ (s.node n).sq.pst.released = true ∧ (s.node n).pins.slpOff = true ∧
      o.code ≠ .powerOff) :=
  ⟨⟨stopping, 2, 1, 2, order .powerOff 0, by decide⟩,
    ⟨bay 2 fun d => { d with sq.pst := .inrush, sq.pgSeen := true, sq.order := some (order .cycle 0) }, 1, 2, order .cycle 0, by decide⟩,
    ⟨bay 2 fun d => { d with sq.pst := .running, sq.order := some (order .nmi 0), pins.slpOff := true }, 1, 2, order .nmi 0, by decide⟩⟩

/-- A history of 24 bytes, an order in progress and a command whose count and counter have room in their fields. -/
theorem meets_CaptureRecordLayout :
    ∃ (s : State) (n : NodeId) (o : PowerOrder) (c : PortCmd), (s.node n).hist.length ≤ 24 ∧ (s.node n).sq.order = some o ∧
      (s.node n).port.cmd = some c ∧ c.count < 256 ∧ c.counter < 4294967296 :=
  ⟨bay 3 fun d => { d with hist := List.replicate 24 0x41, sq.order := some (order .nmi 0), port.cmd := some (window .write 4092) }, 3,
    order .nmi 0, window .write 4092, by decide⟩

theorem meets_StepRunsFrontCommand :
    ∃ (s : State) (n : NodeId) (t : Timer), s.pending = [] ∧ s.init = false ∧ (s.node n).sq.stopT = some t :=
  ⟨bay 0 fun d => { d with sq.stopT := some spent }, 0, spent, by decide⟩

/-! The invariants: a state that meets them and a step of it. -/

/-- A queued node, a journal, a frame and an item to send. -/
def busyState : State :=
  let s := bay 0 fun d => { d with sq.pst := .queued }
  let s := s.modNode 1 fun d => { d with sq.pst := .running, jr.layout := some { ring with lossless := true }, jr.bodyCount := 8,
                                         ch.tx := .string, ch.txq := [pulse], hist := [0x41] }
  let s := s.modFrame 0 fun x => { x with st := .clean, own := some (1, 0) }
  (s.modShelf fun h => { h with queue := [0] }).store 0x4800 [1]

theorem meets_StepKeepsMemory : ∃ s t : State, MemInv s ∧ step s = .next t :=
  ⟨busyState, _, by unfold MemInv; decide, rfl⟩

theorem meets_StepKeepsQueue : ∃ s t : State, QueueInv s ∧ step s = .next t :=
  ⟨busyState, _, by unfold QueueInv; decide, rfl⟩

theorem meets_StepKeepsLimits :
    ∃ s t : State, TxInv s ∧ RecoveryInv s ∧ HistoryInv s ∧ CountsEven s ∧ step s = .next t :=
  ⟨busyState, _, by unfold TxInv; decide, by unfold RecoveryInv; decide, by unfold HistoryInv; decide,
    by unfold CountsEven; decide, rfl⟩

theorem meets_StepKeepsJournal : ∃ s t : State, JournalInv s ∧ step s = .next t := by
  refine ⟨busyState, _, ?_, rfl⟩
  intro n l h
  have hl : (∀ m : NodeId, (busyState.node m).jr.layout = none ∨
      (busyState.node m).jr.layout = some { ring with lossless := true } ∧ (busyState.node m).jr.pinnedCount ≤ 0 ∧
        (busyState.node m).jr.fence ≤ (busyState.node m).jr.bodyCount ∧
        (busyState.node m).jr.bodyCount - (busyState.node m).jr.fence ≤ 8) := by decide
  rcases hl n with hn | ⟨hn, hp, hf, hb⟩
  · simp [h] at hn
  · rw [hn] at h
    cases h
    exact ⟨hp, hf, fun _ => hb⟩

theorem meets_StepKeepsFrameTags : ∃ s t : State, FramesUnique s ∧ step s = .next t := by
  refine ⟨busyState, _, ?_, rfl⟩
  have ho : ∀ f : FrameId, f ≠ 0 → (busyState.frame f).own = none := by decide +kernel
  intro f g k hf hg
  by_cases h1 : f = 0
  · by_cases h2 : g = 0
    · rw [h1, h2]
    · simp [ho g h2] at hg
  · simp [ho f h1] at hf

theorem meets_StepKeepsShelfState : ∃ s t : State, ShelfInv s ∧ step s = .next t :=
  ⟨busyState, _, by unfold ShelfInv; decide, rfl⟩

theorem meets_StepKeepsPorts : ∃ s t : State, WaitInv s ∧ PortInv s ∧ step s = .next t :=
  ⟨busyState, _, by unfold WaitInv; decide, by unfold PortInv; decide, rfl⟩

end Sys2Proof.Tests
end

/-! PROOFS. Liveness, recovery and capture: what every operation leaves of the records, the update counts, the signs of life
and the windows, the capture record. -/

namespace Sys2Proof.LivenessAndCapture
open Sys2Proof.Machine

section
/-! ### What every operation leaves of the records (R172)

The update counts and the shown values are the publication's alone: no operation of a block changes them. One lemma per
operation, in the order of the model. -/

variable (s : State) (n : NodeId)

/-! ### Attention bits, event flags, slots -/

@[simp] theorem setAttn_records (b : AttnBit) : (setAttn s b).records = s.records := rfl
@[simp] theorem nodeEvent_records (e : NodeEvent) : (nodeEvent s n e).records = s.records := rfl
@[simp] theorem shelfEvent_records (e : ShelfEvent) : (shelfEvent s e).records = s.records := rfl
@[simp] theorem refuseWrite_records : (refuseWrite s).records = s.records := rfl
@[simp] theorem slotDone_records (k : SlotId) (r : Result) (detail : Word) :
    (slotDone s k r detail).records = s.records := rfl

@[simp] theorem deliver_records (src : OrderSrc) (r : Result) (detail : Word) :
    (deliver s n src r detail).records = s.records := by
  cases src <;> rfl

/-- Steps of which each leaves the records leave them together. -/
theorem foldl_records {α : Type} (f : State → α → State) (h : ∀ s x, (f s x).records = s.records) (xs : List α)
    (s : State) : (xs.foldl f s).records = s.records := by
  induction xs generalizing s with
  | nil => rfl
  | cons x xs ih => exact (ih (f s x)).trans (h s x)

/-- Either way of a choice leaves the records. -/
@[simp] theorem ite_records (p : Prop) [Decidable p] (a b : State) :
    (if p then a else b).records = if p then a.records else b.records := apply_ite State.records p a b

/-! ### The Console Channel -/

@[simp] theorem itemResult_records (i : TxItem) (r : Result) : (itemResult s i r).records = s.records := by
  unfold itemResult; split <;> rfl

@[simp] theorem headSent_records (after : TxPhase) : (headSent s n after).records = s.records := by
  unfold headSent; split <;> simp

@[simp] theorem discardTx_records : (discardTx s n).records = s.records := by
  simp [discardTx, foldl_records]

@[simp] theorem injectAction_records (i : WatchId) (p : TxPayload) : (injectAction s n i p).records = s.records := by
  simp [injectAction]

/-! ### The Journal Writer -/

theorem placeLine_records {s t : State} {n : NodeId} {line : Line} (h : placeLine s n line = some t) :
    t.records = s.records := by
  unfold placeLine at h
  cases hl : (s.node n).jr.layout with
  | none => simp only [hl, Option.some.injEq] at h; rw [← h]
  | some l =>
    simp only [hl] at h
    split at h
    · cases h; rfl
    · split at h
      · cases h; rfl
      · cases h

@[simp] theorem handOver_records (line : Line) (split : Bool) : (handOver s n line split).records = s.records := by
  unfold handOver
  cases h : placeLine s n line with
  | some t => exact (placeLine_records h :)
  | none => simp

@[simp] theorem storeByte_records (b : Byte) : (storeByte s n b).records = s.records := by
  simp [storeByte]

@[simp] theorem releaseCr_records : (releaseCr s n).records = s.records := by
  simp [releaseCr]

@[simp] theorem takeLf_records (error : Bool) : (takeLf s n error).records = s.records := by
  simp [takeLf, markFraming]

@[simp] theorem takeOther_records (b : Byte) (error : Bool) : (takeOther s n b error).records = s.records := by
  simp [takeOther, dropByte, markFraming]

@[simp] theorem assembleByte_records (b : Byte) (error : Bool) : (assembleByte s n b error).records = s.records := by
  simp [assembleByte, dropByte]

@[simp] theorem endRequest_records (r : EndRequest) : (endRequest s n r).records = s.records := by
  unfold endRequest; dsimp only; split <;> simp

@[simp] theorem marker_records (kind : MarkerKind) (arg : Nat) : (marker s n kind arg).records = s.records := by
  unfold marker writeBody; dsimp only; split <;> simp

@[simp] theorem bootMarker_records (kind : MarkerKind) : (bootMarker s n kind).records = s.records := by
  simp [bootMarker]

@[simp] theorem newBoot_records : (newBoot s n).records = s.records := by simp [newBoot]

@[simp] theorem writeBlocked_records : (writeBlocked s n).records = s.records := by
  unfold writeBlocked; split <;> simp

@[simp] theorem roomWrite_records : (roomWrite s n).records = s.records := by
  unfold roomWrite writeBody; dsimp only; split <;> simp

@[simp] theorem fenceEvent_records : (fenceEvent s n).records = s.records := by simp [fenceEvent]

@[simp] theorem freezeTail_records (reason : TailReason) : (freezeTail s n reason).records = s.records := by
  unfold freezeTail; dsimp only; split <;> simp [freezeCopy]

/-! ### The Frame Controller -/

@[simp] theorem dropDirty_records (f : FrameId) : (dropDirty s n f).records = s.records := rfl

@[simp] theorem dropWaiter_records (w : Waiter) : (dropWaiter s w).records = s.records := rfl

@[simp] theorem freeFrame_records (f : FrameId) : (freeFrame s f).records = s.records := by
  unfold freeFrame; dsimp only; split <;> rfl

@[simp] theorem makeClean_records (f : FrameId) : (makeClean s f).records = s.records := rfl

@[simp] theorem postEntry_records (e : EntryId) (r : Request) : (postEntry s e r).records = s.records := by
  unfold postEntry; dsimp only; split <;> rfl

@[simp] theorem requestTransfer_records (k : TransferKind) (f : FrameId) : (requestTransfer s k f).records = s.records := by
  unfold requestTransfer; dsimp only; split <;> simp

@[simp] theorem freeEntryServe_records (e : EntryId) : (freeEntryServe s e).records = s.records := by
  unfold freeEntryServe serveWaitList; split <;> simp

@[simp] theorem requestFlush_records (f : FrameId) : (requestFlush s f).records = s.records := by simp [requestFlush]

@[simp] theorem flushOldest_records : (flushOldest s n).records = s.records := by
  unfold flushOldest; split <;> simp

@[simp] theorem flushAll_records : (flushAll s n).records = s.records := by simp [flushAll, foldl_records]

@[simp] theorem joinDirty_records (f : FrameId) : (joinDirty s n f).records = s.records := by
  simp [joinDirty, dropClean]

theorem allocate_records {s t : State} {n : NodeId} {tag : Nat} {assemble : Bool} (h : allocate s n tag assemble = some t) :
    t.records = s.records := by
  unfold allocate at h
  split at h
  · cases h; rfl
  · split at h
    · cases h
    · split at h <;> cases h <;> simp [takeFrame, dropClean]

@[simp] theorem windowPass_records (c : PortCmd) (ts : List Nat) : (windowPass s n c ts).records = s.records := by
  induction ts generalizing s with
  | nil => rfl
  | cons t ts ih =>
    unfold windowPass
    cases h : allocateFor s n c t with
    | none => rfl
    | some u => exact (ih u).trans (allocate_records h)

theorem waiterAllocate_records {s t : State} {w : Waiter} (h : waiterAllocate s w = some t) : t.records = s.records := by
  cases w with
  | prefetch n => exact allocate_records h
  | command n =>
    unfold waiterAllocate at h
    dsimp only at h
    split at h
    · exact allocate_records h
    · cases h; rfl

@[simp] theorem tryWaiter_records (w : Waiter) : (tryWaiter s w).records = s.records := by
  unfold tryWaiter
  cases h : waiterAllocate s w with
  | none => simp
  | some t => exact (waiterAllocate_records h :)

@[simp] theorem retryWaits_records : (retryWaits s).records = s.records := by simp [retryWaits, foldl_records]

@[simp] theorem allocateOrWait_records (w : Waiter) : (allocateOrWait s w).records = s.records := by
  unfold allocateOrWait
  cases h : waiterAllocate s w with
  | none => simp
  | some t => exact (waiterAllocate_records h :)

@[simp] theorem wordStored_records (c : PortCmd) (f : FrameId) : (wordStored s n c f).records = s.records := by
  unfold wordStored; split <;> simp

@[simp] theorem freeAssembling_records : (freeAssembling s n).records = s.records := by
  simp [freeAssembling, foldl_records]

@[simp] theorem endCommand_records (e : EndCode) : (endCommand s n e).records = s.records := by
  unfold endCommand; split <;> simp

@[simp] theorem resetCommand_records : (resetCommand s n).records = s.records := by
  unfold resetCommand; split <;> simp

@[simp] theorem flushCheck_records : (flushCheck s n).records = s.records := by
  unfold flushCheck; split <;> simp

@[simp] theorem settleWait_records : (settleWait s n).records = s.records := by simp [settleWait]

@[simp] theorem settleWaits_records : (settleWaits s).records = s.records := by simp [settleWaits, foldl_records]

@[simp] theorem beginPrefetch_records : (beginPrefetch s n).records = s.records := by
  unfold beginPrefetch; dsimp only
  split
  · rfl
  · split
    · split <;> simp
    · simp

@[simp] theorem dropPrefetch_records : (dropPrefetch s n).records = s.records := rfl

/-! ### The Media Port -/

@[simp] theorem acceptCommand_records (k : MediaCmd) : (acceptCommand s n k).records = s.records := by
  cases k <;> simp [acceptCommand]

@[simp] theorem takeCommand_records (w : Word) : (takeCommand s n w).records = s.records := by
  unfold takeCommand
  split
  · rfl
  · dsimp only; split <;> simp

@[simp] theorem touchFrame_records (c : PortCmd) : (touchFrame s n c).records = s.records := by
  unfold touchFrame; split <;> simp [joinClean]

@[simp] theorem advance_records : (advance s n).records = s.records := by
  unfold advance; split <;> simp

@[simp] theorem readData_records : (readData s n).records = s.records := by
  unfold readData; dsimp only; split <;> simp

@[simp] theorem readStat_records : (readStat s n).records = s.records := by simp [readStat]

@[simp] theorem writeData_records (w : Word) : (writeData s n w).records = s.records := by
  unfold writeData
  split
  · split <;> simp
  · rfl

@[simp] theorem portResetOn_records (ie : Bool) : (portResetOn s n ie).records = s.records := by simp [portResetOn]

@[simp] theorem portResetOff_records (ie : Bool) : (portResetOff s n ie).records = s.records := by simp [portResetOff]

@[simp] theorem portPowerReset_records : (portPowerReset s n).records = s.records := by simp [portPowerReset]

/-! ### The Power Sequencer -/

@[simp] theorem changeState_records (st : PState) : (changeState s n st).records = s.records := by simp [changeState]

@[simp] theorem dropPower_records : (dropPower s n).records = s.records := by
  unfold dropPower; dsimp only; split <;> simp

@[simp] theorem leavePower_records (st : PState) : (leavePower s n st).records = s.records := by simp [leavePower]

@[simp] theorem setOrder_records (c : PowerCode) (src : OrderSrc) (f : Byte) : (setOrder s n c src f).records = s.records := rfl

@[simp] theorem recordCompletion_records (c : PowerCode) (src : OrderSrc) (r : Result) (detail : Word) :
    (recordCompletion s n c src r detail).records = s.records := by
  simp [recordCompletion]

@[simp] theorem completeOrder_records (r : Result) (detail : Word) : (completeOrder s n r detail).records = s.records := by
  unfold completeOrder; split <;> simp

@[simp] theorem completePowerUp_records (detail : Word) : (completePowerUp s n detail).records = s.records := by
  simp [completePowerUp]

@[simp] theorem rearmBoot_records : (rearmBoot s n).records = s.records := by simp [rearmBoot]

@[simp] theorem enterBooting_records : (enterBooting s n).records = s.records := by simp [enterBooting]

@[simp] theorem gateCheck_records : (gateCheck s n).records = s.records := by simp [gateCheck, addDetail]

@[simp] theorem enterGated_records : (enterGated s n).records = s.records := by simp [enterGated]

@[simp] theorem enterInrush_records : (enterInrush s n).records = s.records := by
  unfold enterInrush; dsimp only; split <;> simp

@[simp] theorem bootDone_records : (bootDone s n).records = s.records := by simp [bootDone]

@[simp] theorem enterFault_records (r : FaultReason) : (enterFault s n r).records = s.records := by simp [enterFault]

@[simp] theorem nodeOff_records : (nodeOff s n).records = s.records := by simp [nodeOff]

@[simp] theorem removeNode_records : (removeNode s n).records = s.records := by simp [removeNode]

@[simp] theorem insertNode_records : (insertNode s n).records = s.records := by simp [insertNode]

@[simp] theorem supersede_records : (supersede s n).records = s.records := by simp [supersede]

@[simp] theorem actPower_records (c : PowerCode) (src : OrderSrc) (f : Byte) : (actPower s n c src f).records = s.records := by
  cases c <;> simp [actPower, actReset, actCycle, actForceOff]

@[simp] theorem pgoodUp_records : (pgoodUp s n).records = s.records := by simp [pgoodUp]

@[simp] theorem pgoodDown_records : (pgoodDown s n).records = s.records := by
  unfold pgoodDown; dsimp only; split <;> simp

@[simp] theorem slpOffUp_records : (slpOffUp s n).records = s.records := by simp [slpOffUp]

@[simp] theorem inrushExpires_records : (inrushExpires s n).records = s.records := by simp [inrushExpires]

@[simp] theorem powerGoodExpires_records : (powerGoodExpires s n).records = s.records := by simp [powerGoodExpires]

@[simp] theorem bootExpires_records : (bootExpires s n).records = s.records := by simp [bootExpires]

@[simp] theorem stopExpires_records : (stopExpires s n).records = s.records := by
  unfold stopExpires; split <;> simp

@[simp] theorem nmiExpires_records : (nmiExpires s n).records = s.records := by simp [nmiExpires]

@[simp] theorem admissionExpires_records : (admissionExpires s n).records = s.records := by simp [admissionExpires]

/-! ### Liveness -/

@[simp] theorem hangAction_records : (hangAction s n).records = s.records := by
  unfold hangAction; dsimp only
  split
  · rfl
  · split
    · split <;> simp [recordHang]
    · rfl

@[simp] theorem determineHung_records : (determineHung s n).records = s.records := by simp [determineHung, detectHang]

@[simp] theorem heartbeat_records : (heartbeat s n).records = s.records := by
  unfold heartbeat; split <;> simp

@[simp] theorem byteSignOfLife_records : (byteSignOfLife s n).records = s.records := by simp [byteSignOfLife]

@[simp] theorem hbExpires_records : (hbExpires s n).records = s.records := by simp [hbExpires]

@[simp] theorem silExpires_records : (silExpires s n).records = s.records := by simp [silExpires]

@[simp] theorem installLiveness_records (c : LivenessSettings) : (installLiveness s n c).records = s.records := by
  simp [installLiveness]

/-! ### The Shelf Budget Unit -/

@[simp] theorem determineShelf_records : (determineShelf s).records = s.records := by simp [determineShelf]

@[simp] theorem issueShed_records : (issueShed s n).records = s.records := by
  unfold issueShed; dsimp only; split <;> simp

@[simp] theorem admitHead_records : (admitHead s n).records = s.records := by simp [admitHead]

theorem budgetPass_records {s t : State} (h : budgetPass s = some t) : t.records = s.records := by
  unfold budgetPass at h
  split at h
  · split at h
    · obtain ⟨n, -, rfl⟩ := Option.map_eq_some_iff.mp h
      simp
    · cases h
  · split at h
    · cases h
    · split at h <;> cases h
      simp

theorem budgetPasses_records (k : Nat) : (budgetPasses k s).records = s.records := by
  induction k generalizing s with
  | zero => exact determineShelf_records s
  | succ k ih =>
    unfold budgetPasses; dsimp only
    cases h : budgetPass (determineShelf s) with
    | none => exact determineShelf_records s
    | some t => exact (ih t).trans ((budgetPass_records h).trans (determineShelf_records s))

@[simp] theorem evaluateBudget_records : (evaluateBudget s).records = s.records := budgetPasses_records s 16

@[simp] theorem supplyChange_records : (supplyChange s).records = s.records := by simp [supplyChange]

@[simp] theorem installBudget_records (c : BudgetCfg) : (installBudget s c).records = s.records := by simp [installBudget]

@[simp] theorem installProfile_records (p : Profile) : (installProfile s n p).records = s.records := by simp [installProfile]

@[simp] theorem staggerExpires_records : (staggerExpires s).records = s.records := by simp [staggerExpires]

/-! ### Attachments and returns -/

@[simp] theorem installAttachment_records (g : AttachFigures) : (installAttachment s n g).records = s.records := by
  simp [installAttachment]

@[simp] theorem detachCheck_records : (detachCheck s n).records = s.records := by simp [detachCheck]

@[simp] theorem freeWhere_records (p : State → FrameId → Bool) : (freeWhere s n p).records = s.records := by
  simp [freeWhere, foldl_records]

@[simp] theorem discardFrames_records : (discardFrames s n).records = s.records := by simp [discardFrames]

@[simp] theorem freeIdleFrames_records : (freeIdleFrames s n).records = s.records := by simp [freeIdleFrames]

@[simp] theorem beginDetach_records (slot : Nat) (k : DetachKind) : (beginDetach s n slot k).records = s.records := by
  simp [beginDetach, detachPrefetch]

@[simp] theorem forceDetach_records (slot : Nat) : (forceDetach s n slot).records = s.records := by simp [forceDetach]

@[simp] theorem lateFill_records (f : FrameId) : (lateFill s f n).records = s.records := by simp [lateFill]

@[simp] theorem prefetchFilled_records (t : Nat) : (prefetchFilled s n t).records = s.records := by simp [prefetchFilled]

@[simp] theorem afterReturn_records (e : EntryId) : (afterReturn s e n).records = s.records := by simp [afterReturn]

@[simp] theorem fillReturned_records (e : EntryId) : (fillReturned s e).records = s.records := by simp [fillReturned]

@[simp] theorem fetchReturnedFailed_records (e : EntryId) : (fetchReturnedFailed s e).records = s.records := by
  simp [fetchReturnedFailed, recordFailure]

@[simp] theorem flushReturned_records (e : EntryId) : (flushReturned s e).records = s.records := by simp [flushReturned]

@[simp] theorem stopWait_records (f : FrameId) : (stopWait s n f).records = s.records := by
  unfold stopWait; split <;> simp

@[simp] theorem flushReturnedFailed_records (e : EntryId) : (flushReturnedFailed s e).records = s.records := by
  simp [flushReturnedFailed, recordFailure]

@[simp] theorem waitExpires_records : (waitExpires s n).records = s.records := by
  unfold waitExpires; dsimp only
  split
  · rfl
  · rw [endCommand_records]; split <;> simp

@[simp] theorem ageExpires_records (f : FrameId) : (ageExpires s f).records = s.records := by simp [ageExpires]

/-! ### The Watch Matcher -/

@[simp] theorem issueAction_records (i : WatchId) (a : WatchAction) : (issueAction s i n a).1.records = s.records := by
  cases a with
  | note => rfl
  | mark => simp [issueAction]
  | inject p => simp [issueAction]
  | power code flags => unfold issueAction orderAction; dsimp only; split <;> simp
  | capture slot => rfl
  | bootDone => unfold issueAction; dsimp only; split <;> simp
  | freezeTail => simp [issueAction]

@[simp] theorem takeMatch_records (i : WatchId) : (takeMatch n s i).records = s.records := by
  unfold takeMatch; split <;> simp [fireEntry]

@[simp] theorem matchByte_records (b : Byte) : (matchByte s n b).records = s.records := by
  simp [matchByte, foldl_records]

@[simp] theorem clearHistory_records : (clearHistory s n).records = s.records := rfl

/-! ### The Order Engine -/

@[simp] theorem runAction_records (k : SlotId) (a : OrderAction) : (runAction s k a).records = s.records := by
  cases a with
  | detach n d => simp [runAction, acceptDetach]
  | power n c f => simp [runAction, slotPower]
  | uartSet n u => simp [runAction, installUart]
  | _ => simp [runAction, installLayout, releaseTail, setWatch, clearWatch, rearmWatch, writeCapture]

@[simp] theorem postSlot_records (k : SlotId) : (postSlot s k).records = s.records := by
  unfold postSlot; dsimp only; split <;> simp [refuseOrder, acceptOrder]

@[simp] theorem postOrder_records (k : SlotId) (code target flags : Byte) :
    (postOrder s k code target flags).records = s.records := by
  simp [postOrder]

@[simp] theorem writeFree_records (k : SlotId) : (writeFree s k).records = s.records := by simp [writeFree]

/-! ### The resets -/

@[simp] theorem settleNode_records : (settleNode s n).records = s.records := by
  simp [settleNode, settleState, adopt]

@[simp] theorem abortSlot_records (k : SlotId) : (abortSlot s k).records = s.records := by simp [abortSlot]

@[simp] theorem releaseBudget_records : (releaseBudget s).records = s.records := by
  unfold releaseBudget; dsimp only; rw [evaluateBudget_records]; split <;> rfl

@[simp] theorem raiseSets_records : (raiseSets s).records = s.records := by simp [raiseSets, foldl_records]

@[simp] theorem releaseHold_records : (releaseHold s).records = s.records := by
  simp [releaseHold, foldl_records, dropMedia]

/-! ### The buses -/

@[simp] theorem writeAck_records (r : AckRecord) (data : Word) : (writeAck s r data).records = s.records := by
  cases r <;> simp [writeAck, acknowledge]

@[simp] theorem writeFenceHi_records (data : Word) : (writeFenceHi s n data).records = s.records := by simp [writeFenceHi]

@[simp] theorem writeEntryState_records (e : EntryId) (v : Nat) : (writeEntryState s e v).records = s.records := by
  unfold writeEntryState
  split
  · simp
  · split <;> simp

@[simp] theorem writeSlotState_records (k : SlotId) (data : Word) : (writeSlotState s k data).records = s.records := by
  simp [writeSlotState]

theorem watched_records {f : State → State} (hf : ∀ s, (f s).records = s.records) (lanes : BitVec 4) :
    (watched s lanes f).records = s.records := by
  simp [watched, hf]

@[simp] theorem storeLanes_records (a : Nat) (lanes : BitVec 4) (data : Word) :
    (storeLanes s a lanes data).records = s.records := rfl

@[simp] theorem writeNodeWord_records (offset : Nat) (lanes : BitVec 4) (data : Word) :
    (writeNodeWord s n offset lanes data).records = s.records := by
  unfold writeNodeWord; split <;> simp [watched_records]

@[simp] theorem writeEntryWord_records (e : EntryId) (offset : Nat) (lanes : BitVec 4) (data : Word) :
    (writeEntryWord s e offset lanes data).records = s.records := by
  unfold writeEntryWord; split <;> simp [watched_records]

@[simp] theorem writeSlotWord_records (k : SlotId) (offset : Nat) (lanes : BitVec 4) (data : Word) :
    (writeSlotWord s k offset lanes data).records = s.records := by
  simp [writeSlotWord, watched_records]

@[simp] theorem writeBank0_records (a : Nat) (lanes : BitVec 4) (data : Word) :
    (writeBank0 s a lanes data).records = s.records := by
  simp [writeBank0, watched_records]

@[simp] theorem writeExchange_records (word : BitVec 18) (lanes : BitVec 4) (data : Word) :
    (writeExchange s word lanes data).records = s.records := by
  simp [writeExchange]

@[simp] theorem writeCtl_records (rst ie : Bool) : (writeCtl s n rst ie).records = s.records := by simp [writeCtl]

@[simp] theorem writeCmd_records (w : Word) : (writeCmd s n w).records = s.records := by simp [writeCmd]

@[simp] theorem writeMpData_records (w : Word) : (writeMpData s n w).records = s.records := by simp [writeMpData]

theorem writePort_records {s t : State} {n : NodeId} {offset : Nat} {data : Word} (h : writePort s n offset data = some t) :
    t.records = s.records := by
  unfold writePort writeWindow at h
  split at h <;> cases h <;> simp

/-! ### The console events -/

@[simp] theorem deliverBreak_records : (deliverBreak s n).records = s.records := by simp [deliverBreak]

@[simp] theorem frameSampled_records (data : Byte) (parity stop1 stop2 : Bool) :
    (frameSampled s n data parity stop1 stop2).records = s.records := by
  simp [frameSampled, deliverByte]

@[simp] theorem stringSent_records : (stringSent s n).records = s.records := by
  unfold stringSent; split <;> simp

@[simp] theorem breakSent_records : (breakSent s n).records = s.records := by
  unfold breakSent; split <;> simp [whenRanOut]

end

/-! ### What a record depends on -/

/-- The shelf record shows the shelf and the sequencers. -/
theorem shelfBody_congr {s t : State} (hs : t.shelf = s.shelf) (hq : ∀ n, (t.node n).sq = (s.node n).sq) :
    shelfBody t = shelfBody s := by
  have hr : t.reservation = s.reservation := funext fun n => by simp only [State.reservation, hq]
  have ht : t.total = s.total := by simp only [State.total, hr]
  simp only [shelfBody, hs, hr, ht]

/-- A node record shows the nodes, the frames and the hold. -/
theorem nodeBody_congr {s t : State} (hn : t.nodes = s.nodes) (hf : t.frames = s.frames) (hh : t.hold = s.hold)
    (n : NodeId) (w : Shown) : nodeBody t n w = nodeBody s n w := by
  cases s; cases t; cases hn; cases hf; cases hh; rfl

/-! ### Events and the update counts (R172) -/

/-- The command's event is published: its effect leaves the records, and the update counts follow the change. -/
def Published (s t : State) : Prop := ∃ u, u.records = s.records ∧ t = publish s u

/-- The command is no event that a record shows: what the records show stays, and so do the counts, but for that of a deferred
showing. -/
def Unshown (c : Instr) (s t : State) : Prop :=
  t.watch = s.watch ∧ t.shelf = s.shelf ∧ (∀ n, (t.node n).sq = (s.node n).sq) ∧
    t.records.shelf = s.records.shelf ∧ t.records.watch = s.records.watch ∧
    (s.init = false → t.nodes = s.nodes ∧ t.frames = s.frames ∧ t.hold = s.hold ∧
      ∀ n, c ≠ .deferredShowing n → t.record n = s.record n)

theorem unshown_refl (c : Instr) (s : State) : Unshown c s s :=
  ⟨rfl, rfl, fun _ => rfl, rfl, rfl, fun _ => ⟨rfl, rfl, rfl, fun _ _ => rfl⟩⟩

/-- What a change of an input level keeps: all that the records show while the blocks take no event. -/
def KeepsShown (f : State → State) : Prop :=
  ∀ s, (f s).watch = s.watch ∧ (f s).shelf = s.shelf ∧ (∀ n, ((f s).node n).sq = (s.node n).sq) ∧
    (f s).records = s.records

theorem published_finish {s u : State} (h : u.records = s.records) : Published s (finish s u) :=
  ⟨_, by rw [settleWaits_records, ite_records, evaluateBudget_records, ite_self, h], rfl⟩

theorem blockEvent_cases {f : State → State} (h : ∀ s, (f s).records = s.records) (c : Instr) (s : State) :
    Published s (blockEvent s f) ∨ Unshown c s (blockEvent s f) := by
  unfold blockEvent
  split
  · exact .inr (unshown_refl c s)
  · exact .inl (published_finish (h s))

theorem whenRanOut_records {f : State → State} (h : ∀ s, (f s).records = s.records) (x : Option Timer) (s : State) :
    (whenRanOut x f s).records = s.records := by
  simp [whenRanOut, h]

theorem pinEvent_cases {level f : State → State} (hl : KeepsShown level) (hf : ∀ s, (f s).records = s.records) (c : Instr)
    (s : State) : Published s (pinEvent s level f) ∨ Unshown c s (pinEvent s level f) := by
  obtain ⟨hw, hs, hq, hr⟩ := hl s
  cases hi : s.init with
  | true =>
    rw [pinEvent_init hi]
    exact .inr ⟨hw, hs, hq, by rw [hr], by rw [hr], fun h => absurd (hi.symm.trans h) (by decide)⟩
  | false =>
    rw [pinEvent_run hi]
    exact .inl (published_finish ((hf _).trans hr))

/-- Where a node is changed but for its sequencer, and no other part, no record but its own shows it. -/
theorem keepsShown_modNode (n : NodeId) {g : State → Node → Node} (h : ∀ s d, (g s d).sq = d.sq) :
    KeepsShown fun s => s.modNode n (g s) := by
  refine fun s => ⟨rfl, rfl, fun m => ?_, rfl⟩
  simp only [State.modNode_node]
  split
  · exact h _ _
  · rfl

theorem keepsShown_modPins (n : NodeId) (f : Pins → Pins) : KeepsShown (·.modPins n f) :=
  keepsShown_modNode n fun _ _ => rfl

theorem keepsShown_rxdLevel (n : NodeId) (high : State → Bool) : KeepsShown fun s => rxdLevel s n (high s) :=
  keepsShown_modNode n fun _ _ => rfl

theorem keepsShown_toggleSupply (p : SupplyPin) : KeepsShown (toggleSupply p) := by
  cases p <;> exact fun s => ⟨rfl, rfl, fun _ => rfl, rfl⟩

/-- A write of CTRL or of the attention registers changes nothing that a record shows. -/
theorem writeCtrl_cases (c : Instr) (s : State) (reset imode ien : Bool) :
    Published s (writeCtrl s reset imode ien) ∨ Unshown c s (writeCtrl s reset imode ien) := by
  have hc : Unshown c s (storeControl s imode ien) := unshown_refl c s
  unfold writeCtrl
  split
  · exact .inr (unshown_refl c s)
  · dsimp only
    split
    · split
      · exact .inr hc
      · exact .inl ⟨beginHold (storeControl s imode ien), rfl, rfl⟩
    · split
      · exact .inl (published_finish (releaseHold_records _))
      · exact .inr hc

theorem writeRegister_cases (c : Instr) (s : State) (offset : Nat) (data : Word) :
    Published s (writeRegister s offset data) ∨ Unshown c s (writeRegister s offset data) := by
  unfold writeRegister
  split
  · exact writeCtrl_cases ..
  · exact .inr (unshown_refl c s)
  · exact .inr (unshown_refl c s)
  · exact .inr (unshown_refl c s)

theorem showDeferred_unshown (s : State) (n : NodeId) : Unshown (.deferredShowing n) s (showDeferred s n) := by
  unfold showDeferred; dsimp only
  split
  · exact unshown_refl _ s
  · refine ⟨rfl, rfl, fun _ => rfl, rfl, rfl, fun _ => ⟨rfl, rfl, rfl, fun m hm => ?_⟩⟩
    exact vmod_get_ne _ _ fun e => hm (e ▸ rfl)

theorem cases_of_next {c : Instr} {s t u : State} (h : (.next u : Answer) = .next t) (hu : Published s u ∨ Unshown c s u) :
    Published s t ∨ Unshown c s t := by
  cases h; exact hu

/-- R172: what a command other than the two resets can do to the records: it is an event and published, or no record shows it. -/
theorem exec_cases {c : Instr} {s t : State} (h : exec c s = .next t) (hr : c ≠ .fullReset) (hi : c ≠ .initializationEnd) :
    Published s t ∨ Unshown c s t := by
  cases c with
  | fullReset => exact absurd rfl hr
  | initializationEnd => exact absurd rfl hi
  | powerOn k x f | powerOff k x f | forceOff k x f | reset k x f | resetIfHung k x f | cycle k x f | nmi k x f | inject k x f
  | uartSet k x f | journalLayout k x f | tailFreeze k x f | tailRelease k x f | watchSet k x f | watchClear k x f
  | watchRearm k x f | attach k x f | detach k x f | budgetSet k x f | profileSet k x f | livenessSet k x f | capture k x f
  | unknownOrder k c x f =>
    exact cases_of_next h (.inl (published_finish (postOrder_records ..)))
  | slotFree k => exact cases_of_next h (.inl (published_finish (writeFree_records ..)))
  | exchangeWrite w l d => exact cases_of_next h (.inl (published_finish (writeExchange_records ..)))
  | fenceHiWrite n d => exact cases_of_next h (.inl (published_finish (writeFenceHi_records ..)))
  | eventAckWrite r d => exact cases_of_next h (.inl (published_finish (writeAck_records ..)))
  | fetchFilled e | fetchFailed e | flushFlushed e | flushFailed e =>
    exact cases_of_next h (.inl (published_finish (writeEntryState_records ..)))
  | softResetHold m e | softResetRelease m e | interruptControlWrite m e => exact cases_of_next h (writeCtrl_cases ..)
  | attnWrite d | attnEnWrite d | attnIntPulseEnd => exact cases_of_next h (.inr (unshown_refl _ s))
  | deferredShowing n => exact cases_of_next h (.inr (showDeferred_unshown s n))
  | registerWrite b o d =>
    cases b with
    | management => exact cases_of_next h (writeRegister_cases ..)
    | node n =>
      cases hp : writePort s n o.toNat d with
      | none => simp [exec, execRegisterWrite, hp] at h
      | some u =>
        simp only [exec, execRegisterWrite, hp, Host.Outcome.next.injEq] at h
        subst h; exact .inl (published_finish (writePort_records hp))
  | read n | write n | identify n | flush n | badCommand n w =>
    exact cases_of_next h (.inl (published_finish (writeCmd_records ..)))
  | mpStatRead n => exact cases_of_next h (.inl (published_finish (readStat_records ..)))
  | mpDataRead n => exact cases_of_next h (.inl (published_finish (readData_records ..)))
  | mpDataWrite n w => exact cases_of_next h (.inl (published_finish (writeMpData_records ..)))
  | portResetSet n e | portResetRelease n e | interruptEnableWrite n e =>
    exact cases_of_next h (.inl (published_finish (writeCtl_records ..)))
  | presFall n => exact cases_of_next h (pinEvent_cases (keepsShown_modPins n _) (removeNode_records · n) ..)
  | presRise n => exact cases_of_next h (pinEvent_cases (keepsShown_modPins n _) (insertNode_records · n) ..)
  | pgoodRise n => exact cases_of_next h (pinEvent_cases (keepsShown_modPins n _) (pgoodUp_records · n) ..)
  | pgoodFall n => exact cases_of_next h (pinEvent_cases (keepsShown_modPins n _) (pgoodDown_records · n) ..)
  | slpOffRise n b => exact cases_of_next h (pinEvent_cases (keepsShown_modPins n _) (by simp) ..)
  | hbeatRise n b => exact cases_of_next h (pinEvent_cases (keepsShown_modPins n _) (by simp) ..)
  | supplyPinChange p => exact cases_of_next h (pinEvent_cases (keepsShown_toggleSupply p) supplyChange_records _ s)
  | rxDataByte n d p a b => exact cases_of_next h (pinEvent_cases (keepsShown_rxdLevel n _) (by simp) ..)
  | rxBreak n => exact cases_of_next h (pinEvent_cases (keepsShown_rxdLevel n _) (deliverBreak_records · n) ..)
  | rxdStartEdge n | rxFalseStart n | rxdMarkReturn n =>
    exact cases_of_next h (pinEvent_cases (keepsShown_rxdLevel n _) (by simp) ..)
  | inrushTimerExpiry n | powerGoodTimerExpiry n | resetTimerExpiry n | gateTimerExpiry n | bootTimerExpiry n
  | buttonTimerExpiry n | stopTimerExpiry n | nmiTimerExpiry n | dwellTimerExpiry n | admissionTimerExpiry n
  | staggerTimerExpiry | idleFlushTimerExpiry n | holdoffTimerExpiry i n | waitTimerExpiry n | flushAgeExpiry f =>
    exact cases_of_next h (blockEvent_cases (whenRanOut_records (by simp [holdoffExpires]) _) ..)
  | heartbeatWindowExpiry n | silenceWindowExpiry n => exact cases_of_next h (blockEvent_cases (by simp) ..)
  | stringItemSent n => exact cases_of_next h (blockEvent_cases (stringSent_records · n) ..)
  | breakItemEnd n => exact cases_of_next h (blockEvent_cases (breakSent_records · n) ..)
  | breakGuardEnd n => exact cases_of_next h (blockEvent_cases (by simp) ..)

/-! ### What publication leaves -/

section
variable (s u : State)

@[simp] theorem publish_nodes : (publish s u).nodes = u.nodes := by unfold publish; rfl
@[simp] theorem publish_frames : (publish s u).frames = u.frames := by unfold publish; rfl
@[simp] theorem publish_hold : (publish s u).hold = u.hold := by unfold publish; rfl
@[simp] theorem publish_watch : (publish s u).watch = u.watch := by unfold publish; rfl
@[simp] theorem publish_shelf : (publish s u).shelf = u.shelf := by unfold publish; rfl

@[simp] theorem publish_node (n : NodeId) : (publish s u).node n = u.node n := by simp [State.node]

@[simp] theorem publish_watchEntry (i : WatchId) : (publish s u).watchEntry i = u.watchEntry i := by
  simp [State.watchEntry]

theorem publish_shelfCount : (publish s u).records.shelf = countAfter (shelfChanged s u) u.records.shelf := by
  simp only [publish]

theorem publish_watchCount (i : WatchId) :
    (publish s u).records.watch.get i = countAfter (watchChanged s u i) (u.records.watch.get i) := by
  simp [publish, vector_get_eq]

theorem publish_record (n : NodeId) :
    (publish s u).record n = (u.record n).after (nodeChanged s u n) (u.node n).shown := by
  simp [publish, State.record, vector_get_eq]

end

/-- R172: the update count of a watch reflection goes on by 2 exactly where the reflection changes. -/
theorem watchCount_follows {c : Instr} {s t : State} (h : Published s t ∨ Unshown c s t) (i : WatchId) :
    t.records.watch.get i =
      if watchBody (t.watchEntry i) ≠ watchBody (s.watchEntry i) then s.records.watch.get i + 2
      else s.records.watch.get i := by
  rcases h with ⟨u, hr, rfl⟩ | ⟨hw, -, -, -, hc, -⟩
  · rw [publish_watchCount, hr]
    have hi : (watchChanged s u i = true) = (watchBody ((publish s u).watchEntry i) ≠ watchBody (s.watchEntry i)) := by
      simp only [watchChanged, bne_iff_ne, publish_watchEntry, ne_comm]
    simp only [countAfter, hi]
  · simp only [State.watchEntry, hw, hc, ne_eq, not_true_eq_false, if_false]

/-- R172: so does that of the shelf record. -/
theorem shelfCount_follows {c : Instr} {s t : State} (h : Published s t ∨ Unshown c s t) :
    t.records.shelf =
      (if shelfBody t ≠ shelfBody s ∨ t.shelf.events ≠ s.shelf.events ∨ t.shelf.ack ≠ s.shelf.ack then
        s.records.shelf + 2
      else s.records.shelf) := by
  rcases h with ⟨u, hr, rfl⟩ | ⟨-, hs, hq, hc, -, -⟩
  · have hb : shelfBody (publish s u) = shelfBody u := shelfBody_congr (by simp) (by simp)
    have hi : (shelfChanged s u = true) = (shelfBody (publish s u) ≠ shelfBody s ∨
        (publish s u).shelf.events ≠ s.shelf.events ∨ (publish s u).shelf.ack ≠ s.shelf.ack) := by
      simp only [hb, shelfChanged, Bool.or_eq_true, bne_iff_ne, publish_shelf, ne_comm, or_assoc]
    rw [publish_shelfCount, hr]
    simp only [countAfter, hi]
  · rw [shelfBody_congr hs hq, hs, hc]; simp

/-- The input levels that have an effect in a state of the node, as a list (R4). -/
def effectiveInputs (st : PState) (p : Pins) : List Bool :=
  [p.pgood && st.powered, p.slpOff && st.released, p.pres, p.hbeat && decide (st ≠ .absent)]

theorem effectiveInputs_eq_iff (st : PState) (p q : Pins) :
    effectiveInputs st p = effectiveInputs st q ↔ p.effective st = q.effective st := by
  simp [effectiveInputs, Pins.effective]

/-- R4, R51, R172, R173: what counts as a change of a node record. -/
theorem nodeChanged_iff (s t : State) (n : NodeId) :
    nodeChanged s t n = true ↔
      nodeBody t n (s.record n).shown ≠ nodeBody s n (s.record n).shown ∨
        identityExtension (t.node n).att ≠ identityExtension (s.node n).att ∨ (t.node n).events ≠ (s.node n).events ∨
        (t.node n).ack ≠ (s.node n).ack ∨ (t.node n).fenceHi ≠ (s.node n).fenceHi ∨
        effectiveInputs (s.node n).sq.pst (t.node n).pins ≠ effectiveInputs (s.node n).sq.pst (s.node n).pins ∨
        (s.node n).lv.hung = true ∧
          ((t.node n).lv.edges ≠ (s.node n).lv.edges ∨ (t.node n).lv.hbOrigin ≠ (s.node n).lv.hbOrigin ∨
            (t.node n).lv.silOrigin ≠ (s.node n).lv.silOrigin) := by
  simp only [nodeChanged, Bool.or_eq_true, Bool.and_eq_true, bne_iff_ne, ne_eq, effectiveInputs_eq_iff, or_assoc,
    eq_comm (a := nodeBody s n _), eq_comm (a := identityExtension (s.node n).att), eq_comm (a := (s.node n).events),
    eq_comm (a := (s.node n).ack), eq_comm (a := (s.node n).fenceHi), eq_comm (a := (s.node n).pins.effective _),
    eq_comm (a := (s.node n).lv.edges), eq_comm (a := (s.node n).lv.hbOrigin), eq_comm (a := (s.node n).lv.silOrigin)]

/-- R172: a node record after an event, by whether the event changed it. -/
theorem after_cases (r : NodeRecord) (changed : Bool) (v : Shown) :
    if changed = true then r.after changed v = { count := r.count + 2, shown := v, staleT := none }
    else (r.after changed v).count = r.count ∧ (r.after changed v).shown = r.shown := by
  cases changed with
  | true => rfl
  | false => simp only [NodeRecord.after, Bool.false_eq_true, if_false]; split <;> exact ⟨rfl, rfl⟩

/-- R4, R172: while the part runs, a node record is written, whole, in exactly the events that change it. -/
theorem nodeRecord_follows {c : Instr} {s t : State} (h : Published s t ∨ Unshown c s t) (hi : s.init = false) (n : NodeId)
    (hc : c ≠ .deferredShowing n) :
    if nodeChanged s t n = true then t.record n = { count := (s.record n).count + 2, shown := (t.node n).shown, staleT := none }
    else (t.record n).count = (s.record n).count ∧ (t.record n).shown = (s.record n).shown := by
  rcases h with ⟨u, hr, rfl⟩ | ⟨-, -, -, -, -, hu⟩
  · have hn : nodeChanged s (publish s u) n = nodeChanged s u n := by
      simp only [nodeChanged, publish_node, nodeBody_congr (publish_nodes s u) (publish_frames s u) (publish_hold s u)]
    have hrec : u.record n = s.record n := by simp only [State.record, hr]
    rw [hn, publish_record, hrec, publish_node]
    exact after_cases ..
  · obtain ⟨hn, hf, hh, hrec⟩ := hu hi
    have hnode : t.node n = s.node n := by simp only [State.node, hn]
    have hsame : nodeChanged s t n = false := by
      simp [nodeChanged, nodeBody_congr hn hf hh, hnode]
    rw [hsame, hrec n hc]
    exact ⟨rfl, rfl⟩

/-- R51, R68, R127: a deferred showing writes the fields that lag behind. -/
theorem showDeferred_record (s : State) (n : NodeId) (h : ctrlIgnored s = false) :
    (showDeferred s n).record n =
      if staleShown (s.record n).shown (s.node n).shown = true then
        { count := (s.record n).count + 2, shown := (s.node n).shown, staleT := none }
      else s.record n := by
  unfold showDeferred
  cases hs : staleShown (s.record n).shown (s.node n).shown with
  | false => simp [hs]
  | true =>
    simp only [h, hs, Bool.not_true, Bool.or_self, Bool.false_eq_true, if_false, if_true]
    exact vmod_get_self ..

theorem showDeferred_record_ne (s : State) {n m : NodeId} (h : m ≠ n) : (showDeferred s n).record m = s.record m := by
  unfold showDeferred; dsimp only
  split
  · rfl
  · exact vmod_get_ne _ _ h

theorem showDeferred_becomes (s : State) (n : NodeId) : Becomes (showDeferred s n) s := by
  unfold showDeferred; dsimp only; split <;> rfl

/-- Settles O49: every command but the two resets publishes its event or is none that a record shows. -/
theorem recordsFollowChanges : Obligations.RecordsFollowChanges := by
  refine ⟨fun s n h => ?_, fun c s t h hr hi => ?_⟩
  · have hi : ctrlIgnored s = false := by rcases h with h | h <;> simp [ctrlIgnored, h]
    obtain ⟨-, -, -, hs, hw, -⟩ := showDeferred_unshown s n
    have hm : (showDeferred s n).mem = s.mem := by unfold showDeferred; dsimp only; split <;> rfl
    exact ⟨showDeferred s n, rfl, showDeferred_becomes s n, writes_nil hm, hs, hw, fun m => showDeferred_record_ne s,
      showDeferred_record s n hi⟩
  · have hcases := exec_cases h hr hi
    refine ⟨watchCount_follows hcases, shelfCount_follows hcases, fun hrun n hc => ?_⟩
    have hn := nodeRecord_follows hcases hrun n hc
    simp only [nodeChanged_iff] at hn
    exact hn

/-! ### Events at one node -/

theorem modNode_of_fixed {s : State} {n : NodeId} {f : Node → Node} (h : f (s.node n) = s.node n) : s.modNode n f = s := by
  have hv : vmod s.nodes n f = vmod s.nodes n fun d => d := vmod_congr _ _ h
  unfold State.modNode; rw [hv, vmod_id]

theorem modNode_congr {s : State} {n : NodeId} {f g : Node → Node} (h : f (s.node n) = g (s.node n)) :
    s.modNode n f = s.modNode n g := by
  unfold State.modNode; rw [vmod_congr _ _ h]

/-- R153: a change of a node that keeps its port leaves the wait timers settled. -/
theorem waitsSettled_modNode {s : State} {n : NodeId} {f : Node → Node} (h : WaitsSettled s)
    (hp : (f (s.node n)).port = (s.node n).port) : WaitsSettled (s.modNode n f) := by
  refine waitsSettled_congr h (fun m => ?_) rfl
  rw [State.modNode_node]; split
  · next e => rw [e, hp]
  · rfl

/-- A change of a node that keeps its port, its state and its order is the whole of its event. -/
theorem does_modNode {c : Instr} {s : State} {n : NodeId} {f : Node → Node} (ho : Operating s)
    (he : exec c s = .next (finish s (s.modNode n f))) (hp : (f (s.node n)).port = (s.node n).port)
    (hq : (f (s.node n)).sq = (s.node n).sq) : Does c s (s.modNode n f) [] := by
  refine does_of_effect he (becomes_refl _) (writes_nil rfl) (.inl fun m => ?_) (waitsSettled_modNode ho.2 hp)
  rw [State.modNode_node]; split
  · next e => rw [e, hq]; exact ⟨rfl, .inr rfl⟩
  · exact ⟨rfl, .inr rfl⟩

/-! ### The hung determination (R55) -/

theorem hungNow_of_hb_alive {d : Node} (hw : d.lv.hbWindow ≠ 0) (hr : d.lv.hbReached = false) : hungNow d = false := by
  simp [hungNow, checkMet, hw, hr]

theorem hungNow_of_sil_alive {d : Node} (hw : d.lv.silWindow ≠ 0) (hr : d.lv.silReached = false) : hungNow d = false := by
  simp [hungNow, checkMet, hw, hr]

/-- R55, R58: a node that is not hung has the flag clear. -/
theorem determineHung_alive {s : State} {n : NodeId} (h : hungNow (s.node n) = false) :
    determineHung s n = s.modNode n fun d => { d with lv := { d.lv with hung := false } } := by
  unfold determineHung; simp only [h]
  split
  · next he => exact (modNode_of_fixed (by rw [he])).symm
  · rfl

/-- R55, R56: a node found hung is detected. -/
theorem determineHung_detects {s : State} {n : NodeId} (h : hungNow (s.node n) = true) (hf : (s.node n).lv.hung = false) :
    determineHung s n = detectHang s n := by
  simp [determineHung, h, hf]

/-! ### Heartbeats (R52) -/

theorem heartbeat_absent {s : State} {n : NodeId} (h : (s.node n).sq.pst = .absent) : heartbeat s n = s := by
  simp [heartbeat, h]

theorem heartbeat_counts {s : State} {n : NodeId} (ha : (s.node n).sq.pst ≠ .absent) (hr : (s.node n).sq.pst ≠ .running) :
    heartbeat s n = s.modNode n fun d => { d with lv := { d.lv with edges := bump 65535 d.lv.edges } } := by
  unfold heartbeat
  split
  · next h => exact absurd h ha
  · next h => exact absurd h hr
  · rfl

/-- R52, R54: at a RUNNING node whose heartbeat check is on, an edge is a sign of life. -/
theorem heartbeat_running {s : State} {n : NodeId} (hr : (s.node n).sq.pst = .running) (hw : (s.node n).lv.hbWindow ≠ 0) :
    heartbeat s n = s.modNode n fun d =>
      { d with lv := { d.lv with
          edges := bump 65535 d.lv.edges, hbOrigin := s.msclk, hbAge := 0, hbReached := false, hung := false } } := by
  simp only [heartbeat, hr, State.modLv_eq]
  rw [determineHung_alive (hungNow_of_hb_alive (by simpa using hw) (by simp)), State.modNode_modNode]

/-- A change of HBEAT while the part runs: the level, and at a rise the edge. -/
theorem exec_hbeat {s : State} (hi : s.init = false) (n : NodeId) (level : Bool) :
    exec (.hbeatRise n level) s =
      .next (finish s (if level then heartbeat (s.modPins n fun p => { p with hbeat := level }) n
        else s.modPins n fun p => { p with hbeat := level })) :=
  congrArg Host.Outcome.next (pinEvent_run hi ..)

/-- Settles O9, by the state of the node. -/
theorem heartbeatEdgeIsCounted : Obligations.HeartbeatEdgeIsCounted := by
  intro s n ho level
  have hrise {f : Node → Node} (hb : heartbeat (s.modPins n fun p => { p with hbeat := true }) n = s.modNode n f)
      (hp : (f (s.node n)).port = (s.node n).port) (hq : (f (s.node n)).sq = (s.node n).sq) :
      Does (.hbeatRise n true) s (s.modNode n f) [] :=
    does_modNode ho (by rw [exec_hbeat ho.1, if_pos rfl, hb]) hp hq
  refine ⟨does_modNode ho (exec_hbeat ho.1 n false) rfl rfl, fun ha => ?_, fun ha hr => ?_, fun hr hw => ?_⟩
  · exact hrise (heartbeat_absent (by simpa using ha)) rfl rfl
  · refine hrise ?_ rfl rfl
    rw [heartbeat_counts (by simpa using ha) (by simpa using hr), State.modPins_eq, State.modNode_modNode]
  · refine hrise ?_ rfl rfl
    rw [heartbeat_running (by simpa using hr) (by simpa using hw), State.modPins_eq, State.modNode_modNode]
    rfl

/-! ### Detection and the hang action (R56, R57) -/

theorem nodeEvent_node_self (s : State) (n : NodeId) (e : NodeEvent) :
    (nodeEvent s n e).node n = { s.node n with events := (s.node n).events ||| bitWord e.bit } := by
  simp [nodeEvent_eq, State.node]

theorem nodeEvent_modNode_node (s : State) (n m : NodeId) (e : NodeEvent) (f : Node → Node) :
    ((nodeEvent s n e).modNode n f).node m =
      if m = n then f { s.node n with events := (s.node n).events ||| bitWord e.bit } else s.node m := by
  by_cases h : m = n
  · subst h; simp [nodeEvent_node_self]
  · rw [State.modNode_node_ne _ _ h, if_neg h]; simp [nodeEvent_eq, State.node, h]

/-- A node event stands beside a change of the node that keeps the flags. -/
theorem nodeEvent_modNode (s : State) (n : NodeId) (e : NodeEvent) {f : Node → Node}
    (hf : ∀ d w, f { d with events := d.events ||| w } = { f d with events := (f d).events ||| w }) :
    nodeEvent (s.modNode n f) n e = (nodeEvent s n e).modNode n f := by
  simp only [nodeEvent, setAttn, State.modNode, vmod_vmod, hf]
  rfl

/-- R56: detection at a node with no journal layout. -/
theorem detectHang_no_layout {s : State} {n : NodeId} (hl : (s.node n).jr.layout = none) :
    detectHang s n = hangAction ((nodeEvent s n .hung).modNode n fun d =>
      { d with lv := { d.lv with hung := true, hungSince := s.msclk } }) n := by
  unfold detectHang
  dsimp only
  rw [State.modLv_eq, nodeEvent_modNode _ _ _ (fun _ _ => rfl), bootMarker_none, freezeTail_none] <;>
    simpa [nodeEvent_node_self] using hl

theorem hangAction_none {s : State} {n : NodeId} (h : (s.node n).lv.action = .none) : hangAction s n = s := by
  simp [hangAction, h, HangAction.order]

/-- R7, R162: a RUNNING node takes a RESET. -/
theorem powerCheck_reset {s : State} {n : NodeId} (h : (s.node n).sq.pst = .running) : powerCheck s n .reset 0 = none := by
  simp [powerCheck, h, PowerCode.checksBusy, PowerCode.acceptedIn, finalCheck]

/-- R57: below the recovery limit, the action RESET is counted, issued and recorded. -/
theorem hangAction_reset {s : State} {n : NodeId} (ha : (s.node n).lv.action = .reset)
    (hl : (s.node n).lv.recovery < (s.node n).lv.limit) (hp : (s.node n).sq.pst = .running) :
    hangAction s n = recordHang
      (actReset (s.modNode n fun d => { d with lv := { d.lv with recovery := d.lv.recovery + 1 } }) n .reset .hang)
      n .accepted := by
  simp only [hangAction, ha, HangAction.order, if_pos hl, powerCheck_reset hp, actPower, State.modLv_eq]

/-- R15: entry to GATED. -/
theorem enterGated_eq {s : State} {n : NodeId} (h : (s.node n).sq.pst ≠ .gated) :
    enterGated s n = (s.moved n .gated).modNode n fun d =>
      { d with
        lv := d.lv.change d.sq.pst .gated s.msclk,
        sq := { d.sq.enter .gated s.msclk with
                resetT := some (Timer.start d.sq.profile.resetMs),
                gateT := if d.sq.prefetch = .waiting then startUnlessZero d.sq.profile.gateTimeoutMs else none } } := by
  unfold enterGated
  rw [changeState_eq _ _ _ h, State.modSq_eq, State.modNode_modNode]
  simp [Sequencer.enter, keepTimer]

/-- R15, R24, R138: a RESET at a quiet node with no order in progress, outside GATED. -/
theorem actReset_quiet {s : State} {n : NodeId} (hq : QuietNode s n) (hp : (s.node n).sq.pst ≠ .gated)
    (ho : (s.node n).sq.order = none) (code : PowerCode) (src : OrderSrc) :
    actReset s n code src = (s.moved n .gated).modNode n fun d =>
      { d with
        lv := d.lv.change d.sq.pst .gated s.msclk,
        sq := { d.sq.enter .gated s.msclk with
                order := some { code := code, src := src, flags := 0, since := s.msclk, detail := 0 },
                resetT := some (Timer.start d.sq.profile.resetMs),
                gateT := if d.sq.prefetch = .waiting then startUnlessZero d.sq.profile.gateTimeoutMs else none },
        port := d.port.resetValues } := by
  obtain ⟨hc, -, hl⟩ := hq
  have hset : setOrder s n code src 0 = s.modNode n fun d =>
      { d with sq := { d.sq with
          order := some { code := code, src := src, flags := 0, since := s.msclk, detail := 0 } } } := rfl
  have hm (f : Node → Node) : (s.modNode n f).moved n .gated = (s.moved n .gated).modNode n f := rfl
  unfold actReset supersede
  dsimp only
  rw [completeOrder_none _ _ ho, hset, enterGated_eq (by simpa using hp), portPowerReset_none _ _ (by simpa using hc),
    bootMarker_none _ _ (by simpa using hl), hm, State.modNode_modNode, State.modNode_modNode]
  rfl

/-! ### The windows (R54, R55) -/

/-- R54: a window's expiry that has run out, while the part runs. -/
theorem exec_heartbeatWindow {s : State} {n : NodeId} (hi : s.init = false) (h : hbRunOut (s.node n) = true) :
    exec (.heartbeatWindowExpiry n) s = .next (finish s (hbExpires s n)) := by
  refine congrArg Host.Outcome.next ?_
  rw [blockEvent_run hi, if_pos h]

theorem exec_silenceWindow {s : State} {n : NodeId} (hi : s.init = false) (h : silRunOut (s.node n) = true) :
    exec (.silenceWindowExpiry n) s = .next (finish s (silExpires s n)) := by
  refine congrArg Host.Outcome.next ?_
  rw [blockEvent_run hi, if_pos h]

theorem hbRunOut_of {d : Node} (hp : d.sq.pst = .running) (hw : d.lv.hbWindow ≠ 0) (hr : d.lv.hbReached = false)
    (ha : d.lv.hbWindow ≤ d.lv.hbAge) : hbRunOut d = true := by
  simp [hbRunOut, hbRuns, hp, hw, hr, ha]

theorem silRunOut_of {d : Node} (hp : d.sq.pst = .running) (hw : d.lv.silWindow ≠ 0) (hr : d.lv.silReached = false)
    (ha : d.lv.silWindow ≤ d.lv.silAge) : silRunOut d = true := by
  simp [silRunOut, silRuns, hp, hw, hr, ha]

/-- R54, R55: while the silence check is on and not reached, the end of the heartbeat window is only marked. -/
theorem hbExpires_marks {s : State} {n : NodeId} (hs : (s.node n).lv.silWindow ≠ 0) (hr : (s.node n).lv.silReached = false)
    (hh : (s.node n).lv.hung = false) :
    hbExpires s n = s.modNode n fun d => { d with lv := { d.lv with hbReached := true } } := by
  unfold hbExpires
  rw [determineHung_alive (hungNow_of_sil_alive (by simpa using hs) (by simpa using hr)), State.modLv_eq,
    State.modNode_modNode]
  exact modNode_congr (by rw [← hh])

/-- R54, R55: while the heartbeat check is on and not reached, the end of the silence window is only marked. -/
theorem silExpires_marks {s : State} {n : NodeId} (hs : (s.node n).lv.hbWindow ≠ 0) (hr : (s.node n).lv.hbReached = false)
    (hh : (s.node n).lv.hung = false) :
    silExpires s n = s.modNode n fun d => { d with lv := { d.lv with silReached := true } } := by
  unfold silExpires
  rw [determineHung_alive (hungNow_of_hb_alive (by simpa using hs) (by simpa using hr)), State.modLv_eq,
    State.modNode_modNode]
  exact modNode_congr (by rw [← hh])

/-- R55, R56: the silence window ends with the heartbeat window reached: the node is hung; its action is NONE. -/
theorem silExpires_hangs {s : State} {n : NodeId} (hp : (s.node n).sq.pst = .running) (hw : (s.node n).lv.hbWindow ≠ 0)
    (hr : (s.node n).lv.hbReached = true) (hh : (s.node n).lv.hung = false) (ha : (s.node n).lv.action = .none)
    (hl : (s.node n).jr.layout = none) :
    silExpires s n = (nodeEvent s n .hung).modNode n fun d =>
      { d with lv := { d.lv with silReached := true, hung := true, hungSince := s.msclk } } := by
  unfold silExpires
  rw [State.modLv_eq, determineHung_detects (by simp [hungNow, checkMet, hp, hw, hr]) (by simpa using hh),
    detectHang_no_layout (by simpa using hl), nodeEvent_modNode _ _ _ (fun _ _ => rfl), State.modNode_modNode, hangAction_none]
  · rfl
  · simpa [nodeEvent_node_self] using ha

/-- R55, R56, R57: the heartbeat window ends with the silence check off: the node is hung, and its action RESET is issued. -/
theorem hbExpires_resets {s : State} {n : NodeId} (hq : QuietNode s n) (hp : (s.node n).sq.pst = .running)
    (ho : (s.node n).sq.order = none) (hw : (s.node n).lv.hbWindow ≠ 0) (hs : (s.node n).lv.silWindow = 0)
    (hh : (s.node n).lv.hung = false) (ha : (s.node n).lv.action = .reset)
    (hl : (s.node n).lv.recovery < (s.node n).lv.limit) :
    hbExpires s n = (nodeEvent (s.moved n .gated) n .hung).modNode n fun d =>
          { d with
            lv := { d.lv with
                    hbReached := false, silReached := false, hung := false, hungSince := s.msclk,
                    recovery := d.lv.recovery + 1,
                    lastHang := some { action := .reset, time := s.msclk, result := .accepted } },
            sq := { d.sq.enter .gated s.msclk with
                    order := some { code := .reset, src := .hang, flags := 0, since := s.msclk, detail := 0 },
                    resetT := some (Timer.start d.sq.profile.resetMs),
                    gateT := if d.sq.prefetch = .waiting then startUnlessZero d.sq.profile.gateTimeoutMs else none },
            port := d.port.resetValues } := by
  have hn (f : Node → Node) : ((nodeEvent s n .hung).modNode n f).node n =
      f { s.node n with events := (s.node n).events ||| bitWord NodeEvent.hung.bit } := by
    rw [State.modNode_node_self, nodeEvent_node_self]
  have hm (f : Node → Node) : ((nodeEvent s n .hung).modNode n f).moved n .gated =
      (nodeEvent (s.moved n .gated) n .hung).modNode n f := rfl
  obtain ⟨hc, ht, hy⟩ := hq
  unfold hbExpires
  rw [State.modLv_eq, determineHung_detects (by simp [hungNow, checkMet, hp, hw, hs]) (by simpa using hh),
    detectHang_no_layout (by simpa using hy), nodeEvent_modNode _ _ _ (fun _ _ => rfl), State.modNode_modNode,
    hangAction_reset (by rw [hn]; exact ha) (by rw [hn]; exact hl) (by rw [hn]; exact hp), State.modNode_modNode,
    actReset_quiet (by rw [QuietNode, hn]; exact ⟨hc, ht, hy⟩) (by rw [hn]; simp [hp]) (by rw [hn]; exact ho), hm,
    State.modNode_modNode]
  unfold recordHang
  rw [State.modLv_eq, State.modNode_modNode]
  refine modNode_congr ?_
  simp only [nodeEvent_node_self, State.moved_node, hp, ha, Liveness.change, Liveness.leaveRunning, reduceCtorEq,
    if_false, if_true]
  rfl

/-- R153: events that keep the frames, and every port but those with no command, leave the wait timers settled. -/
theorem waitsSettled_of_ports {s t : State} (h : WaitsSettled s) (hf : t.frames = s.frames)
    (hp : ∀ n, (t.node n).port = (s.node n).port ∨
      (s.node n).port.cmd = none ∧ (t.node n).port.cmd = none ∧ (t.node n).port.waitT = (s.node n).port.waitT) :
    WaitsSettled t := by
  intro n
  rcases hp n with he | ⟨hs, ht, hw⟩
  · have hg (f : FrameId) : t.frame f = s.frame f := by simp only [State.frame, hf]
    have hd : t.data n = s.data n := by simp only [State.data, he, State.counterFrame, State.owned, hg]
    simpa only [State.waiting, he, hd] using h n
  · have hn := h n
    simp only [State.waiting, hs] at hn
    simp only [State.waiting, ht, hw, hn]

/-- Settles O19: what the end of a window leaves, by the other check and the action. -/
theorem windowExpiries : Obligations.WindowExpiries := by
  refine ⟨fun s n ho hample hq hp hord hw hs hr hh ha hl hage => ?_, fun s n ho hp hh hw hs => ⟨fun hr hsr hage => ?_,
    fun hr hsr hage => ?_, fun hr hsr ha hage hl => ?_⟩⟩
  · have hx := hbExpires_resets hq hp hord hw hs hh ha hl
    refine does_of_effect (exec_heartbeatWindow ho.1 (hbRunOut_of hp hw hr hage)) (by rw [hx]; exact becomes_refl _)
      (writes_nil (by rw [hx]; rfl)) (.inr ?_) ?_
    · refine calm_of_ample hample rfl rfl rfl rfl rfl (.inr fun h => ?_) fun m => ?_
      · simp [nodeEvent_eq, State.moved, queueChange, h]
      · rw [nodeEvent_modNode_node]; split
        · next hm => subst hm; rfl
        · rfl
    · refine waitsSettled_of_ports ho.2 rfl fun m => ?_
      rw [nodeEvent_modNode_node]; split
      · next hm => subst hm; exact .inr ⟨hq.1, hq.1, rfl⟩
      · exact .inl rfl
  · exact does_modNode ho (by rw [exec_heartbeatWindow ho.1 (hbRunOut_of hp hw hr hage), hbExpires_marks hs hsr hh]) rfl rfl
  · exact does_modNode ho (by rw [exec_silenceWindow ho.1 (silRunOut_of hp hs hsr hage), silExpires_marks hw hr hh]) rfl rfl
  · have hx := silExpires_hangs hp hw hr hh ha hl
    refine does_of_effect (exec_silenceWindow ho.1 (silRunOut_of hp hs hsr hage)) (by rw [hx]; exact becomes_refl _)
      (writes_nil (by rw [hx]; rfl)) (.inl fun m => ?_) (waitsSettled_of_ports ho.2 rfl fun m => .inl ?_)
    all_goals
      rw [nodeEvent_modNode_node]; split
      · next hm => subst hm; simp
      · simp

/-! ### An accepted CAPTURE (R65) -/

/-- R162: a CAPTURE that names a node and a capture slot passes its checks. -/
theorem checkOrder_capture {s : State} {n : NodeId} {c : SlotCopy} {slot : Nat} (hcode : c.code = 0x43)
    (htarget : c.target = nodeByte n) (hflags : c.flags = 0) (hs : captureOf c.params = some slot) :
    checkOrder s c = .ok (.capture n slot) := by
  have ho : orderCodeOf 0x43 = some .capture := rfl
  simp only [checkOrder, hcode, ho, htarget, targetOf_nodeByte, checkNodeOrder, withParams, hflags, hs, ne_eq,
    not_true_eq_false, if_false]

/-- The journal lies above the order slots (section 10.1). -/
theorem slot_below_lineAddr (k : SlotId) (i : Nat) : slotAddr k + 0x100 ≤ lineAddr i := by
  have := k.isLt
  simp only [slotAddr, lineAddr, Config.slotBase, Config.journalBase]; omega

/-- R67: the records that a capture copies are as the post found them. -/
theorem captureLines_afterPost (s : State) (k : SlotId) (code target flags : Byte) (c : SlotCopy) (n : NodeId) :
    captureLines (afterPost s k code target flags c) n = captureLines s n := by
  have hrun (i : Nat) : (afterPost s k code target flags c).mem.readRun (lineAddr i) 128 = s.mem.readRun (lineAddr i) 128 := by
    have := slot_below_lineAddr k i
    simp only [afterPost, State.modSlot_mem, State.store_mem]
    rw [readRun_write_of_outside _ _ _ _ _ (.inr (by simp only [leWord_length]; omega)),
      readRun_write_of_outside _ _ _ _ _ (.inr (by simp only [headerWord_length]; omega))]
  have hnode : (afterPost s k code target flags c).node n = s.node n := rfl
  simp only [captureLines, newestRecords, hnode, hrun]

/-- The header shows no slot and nothing of the RAM but the line count and the first line. -/
theorem captureHeader_afterPost (s : State) (k : SlotId) (code target flags : Byte) (c : SlotCopy) (n : NodeId)
    (source slot : Nat) (lines : List (List Byte)) :
    captureHeader (afterPost s k code target flags c) n source slot lines = captureHeader s n source slot lines := by
  rfl

/-- Settles O23. -/
theorem captureWritesRecord : Obligations.CaptureWritesRecord := by
  intro s k n slot ho hk hs lines
  have hcheck (st : SlotState) (b : Option Binding) :
      checkOrder s (postedCopy s k 0x43 (nodeByte n) 0 st b) = .ok (.capture n slot) :=
    checkOrder_capture rfl rfl rfl hs
  have hpost := postOrder_eq (s := s) (k := k) 0x43 (nodeByte n) 0 ho.1 hk
  rw [hcheck] at hpost
  simp only [runAction, OrderAction.binding, writeCapture, captureLines_afterPost, captureHeader_afterPost] at hpost
  have he : exec (.capture k (nodeByte n) 0) s = .next (finish s (postOrder s k 0x43 (nodeByte n) 0)) := rfl
  rw [hpost] at he
  refine does_of_effect he ?_ ?_ (.inl fun m => ⟨rfl, .inr rfl⟩) (waitsSettled_congr ho.2 (fun _ => rfl) rfl)
  · simp only [Becomes, slotDone_eq, afterPost, doneIn, setAttn_eq, State.modSlot, State.store, vmod_vmod]
    rfl
  · exact writes_append (writes_append (writes_post rfl) (writes_store _ _ _)) (writes_slotDone _ _ _ _)

/-! ### Fields of a list of bytes -/

theorem byteOf_toNat (x : Nat) : (byteOf x).toNat = x % 256 := by simp [byteOf]

theorem byteOf_toNat_of_lt {x : Nat} (h : x < 256) : (byteOf x).toNat = x := by
  rw [byteOf_toNat, Nat.mod_eq_of_lt h]

theorem boolByte_toNat (b : Bool) : (boolByte b).toNat = b.toNat := by cases b <;> rfl

section
variable {h rest : List Byte} {i : Nat}

/-- The bytes of a list from an offset. -/
theorem getD_of_drop {bs : List Byte} (e : h.drop i = bs) (j : Nat) : h.getD (i + j) 0 = bs.getD j 0 := by
  rw [← e]; simp [List.getD_eq_getElem?_getD]

theorem byteAt_of_drop {b : Byte} (e : h.drop i = b :: rest) : byteAt h i = b.toNat :=
  congrArg BitVec.toNat (getD_of_drop e 0)

theorem byteAt_of_byteOf {x : Nat} (e : h.drop i = byteOf x :: rest) : byteAt h i = x % 256 :=
  (byteAt_of_drop e).trans (byteOf_toNat x)

theorem byteAt_of_code {x : Nat} (hx : x < 256) (e : h.drop i = byteOf x :: rest) : byteAt h i = x :=
  (byteAt_of_drop e).trans (byteOf_toNat_of_lt hx)

theorem byteAt_of_bool {b : Bool} (e : h.drop i = boolByte b :: rest) : byteAt h i = b.toNat :=
  (byteAt_of_drop e).trans (boolByte_toNat b)

theorem halfAt_of_drop {x : Nat} (e : h.drop i = le16 x ++ rest) : halfAt h i = x % 65536 := by
  have h0 : byteAt h i = x % 256 := byteAt_of_byteOf e
  have h1 : byteAt h (i + 1) = x / 0x100 % 256 := (congrArg BitVec.toNat (getD_of_drop e 1)).trans (byteOf_toNat _)
  simp only [halfAt, h0, h1]; omega

theorem longAt_of_drop {x : Nat} (e : h.drop i = le32 x ++ rest) : longAt h i = x % 4294967296 := by
  have hlow : halfAt h i = x % 65536 := halfAt_of_drop e
  have hhigh : halfAt h (i + 2) = x / 0x10000 % 65536 := by
    refine halfAt_of_drop (rest := rest) ?_
    rw [← List.drop_drop, e, le16, Nat.div_div_eq_div_mul]; rfl
  simp only [longAt, hlow, hhigh]; omega

theorem wordAt_of_drop {w : Word} (e : h.drop i = leWord w ++ rest) : wordAt h i = w := by
  simp only [wordAt, longAt_of_drop e]
  exact BitVec.eq_of_toNat_eq (by simp [w.isLt])

end

theorem padTo_eq {n : Nat} {p : List Byte} (h : p.length ≤ n) : padTo n p = p ++ List.replicate (n - p.length) 0 := by
  simp [padTo, List.take_append, List.take_of_length_le h]

theorem padTo_length (n : Nat) (p : List Byte) : (padTo n p).length = n := by simp [padTo]

/-! ### Codes fit in a byte -/

theorem pstateCode_lt (p : PState) : p.code < 256 := by cases p <;> decide

theorem faultReasonCode_lt (r : FaultReason) : r.code < 256 := by cases r <;> decide

theorem powerCode_lt (c : PowerCode) : c.code < 256 := by cases c <;> decide

theorem orderSrcCode_lt (r : OrderSrc) : r.code < 256 := by cases r <;> simp only [OrderSrc.code] <;> omega

theorem hangActionCode_lt (a : HangAction) : a.code < 256 := by cases a <;> decide

theorem attachStateCode_lt (a : AttachState) : a.code < 256 := by cases a <;> decide

theorem mediaCmdCode_lt (k : MediaCmd) : k.code < 256 := by cases k <;> decide

/-- R146: a node owns at most the 96 frames. -/
theorem ownedIn_lt (s : State) (n : NodeId) (st : FrameState) : s.ownedIn n st < 256 :=
  Nat.lt_of_le_of_lt List.countP_le_length (by simp)

/-! ### The capture header (R66, section 10.6) -/

/-- The header's fields before the receive history, at offset 0. -/
def headerFront (s : State) (n : NodeId) (source slot : Nat) : List Byte :=
  let d := s.node n
  let q := d.sq
  let l := d.lv
  [byteOf n.val, byteOf source, byteOf slot, 0] ++ (leWord s.msclk ++
  (le16 q.boot.toNat ++ ([byteOf q.pst.code, byteOf q.faultReason.code] ++ (leWord q.since ++
  ([byteOf (orderCodeField q.order), byteOf (orderSourceCode q.order), orderFlagsField q.order, 0] ++
  (le16 (s.reservation n) ++ (le16 s.total ++ (le16 s.shelf.effective ++ (le16 s.shelf.limit ++
  ([boolByte s.shelf.isOver, byteOf (queuePlace s.shelf.queue n), byteOf d.ch.txq.length, byteOf d.hist.length] ++
  (leWord (ageField d s.msclk l.hbOrigin) ++ (leWord (ageField d s.msclk l.silOrigin) ++ (leWord l.hungSince ++
  (le16 l.edges ++ ([boolByte l.hung, byteOf l.recovery, byteOf l.limit, byteOf l.action.code, 0, 0] ++
  (le32 l.hbWindow ++ (le32 l.silWindow ++ leWord d.events)))))))))))))))))

/-- The header's fields after the receive history, at offset 0x58. -/
def headerBack (s : State) (n : NodeId) (lines : List (List Byte)) : List Byte :=
  let d := s.node n
  let (code, first, count, counter) := commandFields d.port
  [byteOf d.att.st.code, byteOf (s.ownedIn n .filling), byteOf (s.ownedIn n .clean), byteOf (s.ownedIn n .dirty),
    byteOf (s.ownedIn n .flushing), byteOf (s.ownedIn n .assembling), byteOf code, count] ++
  (le32 first ++ (leWord counter ++ ([byteOf lines.length, 0, 0, 0] ++ leWord (firstSeq lines))))

section
variable (s : State) (n : NodeId) (source slot : Nat) (lines : List (List Byte))

theorem captureHeader_length : (captureHeader s n source slot lines).length = 512 := padTo_length ..

theorem headerFront_length : (headerFront s n source slot).length = 64 := rfl

theorem headerBack_length : (headerBack s n lines).length = 24 := rfl

/-- The header: its fields, the receive history, its other fields, and zeros to its end. -/
theorem captureHeader_eq : captureHeader s n source slot lines =
    headerFront s n source slot ++ (padTo 24 (s.node n).hist ++ (headerBack s n lines ++ List.replicate 400 0)) := by
  have hl : (padTo 24 (s.node n).hist).length = 24 := padTo_length ..
  have e : captureHeader s n source slot lines =
      padTo 512 (headerFront s n source slot ++ (padTo 24 (s.node n).hist ++ headerBack s n lines)) := by
    simp only [captureHeader, headerFront, headerBack, List.append_assoc]
  rw [e, padTo_eq] <;>
    simp only [List.length_append, List.append_assoc, hl, headerFront_length, headerBack_length, Nat.reduceAdd, Nat.reduceSub,
      Nat.reduceLeDiff]

/-- Every field from an offset on. -/
theorem captureHeader_drop (i : Nat) : (captureHeader s n source slot lines).drop i =
    (headerFront s n source slot ++
      (padTo 24 (s.node n).hist ++ (headerBack s n lines ++ List.replicate 400 0))).drop i := by
  rw [captureHeader_eq]

theorem captureHeader_drop_history : (captureHeader s n source slot lines).drop 0x40 =
    padTo 24 (s.node n).hist ++ (headerBack s n lines ++ List.replicate 400 0) := by
  rw [captureHeader_eq, List.drop_left' (headerFront_length ..)]

theorem captureHeader_drop_back (i : Nat) : (captureHeader s n source slot lines).drop (0x58 + i) =
    (headerBack s n lines ++ List.replicate 400 0).drop i := by
  have e : 0x58 + i = 0x40 + (24 + i) := by omega
  rw [e, ← List.drop_drop, captureHeader_drop_history, ← List.drop_drop, List.drop_left' (padTo_length ..)]

/-- R66: the fields of the power order in progress. -/
theorem captureHeader_order :
    let h := captureHeader s n source slot lines
    (∀ o ∈ (s.node n).sq.order, byteAt h 0x10 = o.code.code ∧ byteAt h 0x11 = o.src.code ∧ h.getD 0x12 0 = o.flags) ∧
    ((s.node n).sq.order = none → byteAt h 0x10 = 0 ∧ byteAt h 0x11 = 0xFF ∧ byteAt h 0x12 = 0) := by
  intro h
  have hc : byteAt h 0x10 = (byteOf (orderCodeField (s.node n).sq.order)).toNat :=
    byteAt_of_drop (captureHeader_drop s n source slot lines 0x10)
  have hs : byteAt h 0x11 = (byteOf (orderSourceCode (s.node n).sq.order)).toNat :=
    byteAt_of_drop (captureHeader_drop s n source slot lines 0x11)
  have hf : h.getD 0x12 0 = orderFlagsField (s.node n).sq.order :=
    getD_of_drop (captureHeader_drop s n source slot lines 0x12) 0
  refine ⟨fun o ho => ?_, fun ho => ?_⟩
  · have ho' : (s.node n).sq.order = some o := ho
    rw [hc, hs, hf, ho']
    exact ⟨byteOf_toNat_of_lt (powerCode_lt _), byteOf_toNat_of_lt (orderSrcCode_lt _), rfl⟩
  · have hf' : byteAt h 0x12 = (orderFlagsField (s.node n).sq.order).toNat := congrArg BitVec.toNat hf
    rw [hc, hs, hf', ho]; exact ⟨rfl, rfl, rfl⟩

/-- R66: the fields of the media command in progress. -/
theorem captureHeader_command :
    let h := captureHeader s n source slot lines
    (∀ c ∈ (s.node n).port.cmd,
      byteAt h 0x5E = c.kind.code ∧ (c.count < 256 → byteAt h 0x5F = c.count) ∧
      longAt h 0x60 = c.first % 4294967296 ∧ (c.counter < 4294967296 → longAt h 0x64 = c.counter)) ∧
    ((s.node n).port.cmd = none →
      byteAt h 0x5E = 0 ∧ byteAt h 0x5F = 0 ∧ longAt h 0x60 = 0 ∧ longAt h 0x64 = 0) := by
  intro h
  have hk : byteAt h 0x5E = (byteOf (commandFields (s.node n).port).1).toNat :=
    byteAt_of_drop (captureHeader_drop_back s n source slot lines 6)
  have hn : byteAt h 0x5F = (commandFields (s.node n).port).2.2.1.toNat :=
    byteAt_of_drop (captureHeader_drop_back s n source slot lines 7)
  have hb : longAt h 0x60 = (commandFields (s.node n).port).2.1 % 4294967296 :=
    longAt_of_drop (captureHeader_drop_back s n source slot lines 8)
  have hp : longAt h 0x64 = (commandFields (s.node n).port).2.2.2.toNat % 4294967296 :=
    longAt_of_drop (captureHeader_drop_back s n source slot lines 12)
  refine ⟨fun c hc => ?_, fun hc => ?_⟩
  · have hc' : (s.node n).port.cmd = some c := hc
    simp only [commandFields, hc'] at hk hn hb hp
    refine ⟨?_, fun h1 => ?_, hb, fun h1 => ?_⟩
    · rw [hk, byteOf_toNat_of_lt (mediaCmdCode_lt _)]
    · rw [hn, countField, if_pos h1, byteOf_toNat_of_lt h1]
    · rw [hp, counterField, if_pos h1, BitVec.toNat_ofNat, Nat.mod_mod, Nat.mod_eq_of_lt h1]
  · simp only [commandFields, hc] at hk hn hb hp
    exact ⟨hk, hn, hb, hp⟩

end

/-- R67: with no layout a capture copies nothing. -/
theorem captureLines_none {s : State} {n : NodeId} (hy : (s.node n).jr.layout = none) : captureLines s n = [] := by
  simp only [captureLines, hy]

/-- R67: the newest records of the body, at most 28, oldest first. -/
theorem captureLines_some {s : State} {n : NodeId} {l : Layout} (hy : (s.node n).jr.layout = some l) :
    captureLines s n = newestRecords s (s.node n).jr l (newestCount (s.node n).jr l 28) := by
  simp only [captureLines, hy]

/-- Settles O60, field by field: those before the receive history, and those after it. -/
theorem captureRecordLayout : Obligations.CaptureRecordLayout := by
  intro s n source slot lines hlen h d q age
  have front := captureHeader_drop s n source slot lines
  have back := captureHeader_drop_back s n source slot lines
  have owned (st : FrameState) : s.ownedIn n st < 256 := ownedIn_lt s n st
  have hhist : (h.drop 0x40).take 24 = d.hist ++ List.replicate (24 - d.hist.length) 0 := by
    rw [captureHeader_drop_history, List.take_left' (padTo_length ..), padTo_eq hlen]
  obtain ⟨horder, hno⟩ := captureHeader_order s n source slot lines
  obtain ⟨hcmd, hnone⟩ := captureHeader_command s n source slot lines
  refine ⟨captureHeader_length ..,
    byteAt_of_code (by omega) (front 0x00), byteAt_of_byteOf (front 0x01), byteAt_of_byteOf (front 0x02),
    wordAt_of_drop (front 0x04), (halfAt_of_drop (front 0x08)).trans (Nat.mod_eq_of_lt q.boot.isLt),
    byteAt_of_code (pstateCode_lt _) (front 0x0A), byteAt_of_code (faultReasonCode_lt _) (front 0x0B),
    wordAt_of_drop (front 0x0C), horder, hno,
    halfAt_of_drop (front 0x14), halfAt_of_drop (front 0x16), halfAt_of_drop (front 0x18), halfAt_of_drop (front 0x1A),
    byteAt_of_bool (front 0x1C), byteAt_of_byteOf (front 0x1D), byteAt_of_byteOf (front 0x1E),
    byteAt_of_code (Nat.lt_of_le_of_lt hlen (by decide)) (front 0x1F),
    wordAt_of_drop (front 0x20), wordAt_of_drop (front 0x24), wordAt_of_drop (front 0x28),
    halfAt_of_drop (front 0x2C), byteAt_of_bool (front 0x2E), byteAt_of_byteOf (front 0x2F),
    byteAt_of_byteOf (front 0x30), byteAt_of_code (hangActionCode_lt _) (front 0x31),
    longAt_of_drop (front 0x34), longAt_of_drop (front 0x38), wordAt_of_drop (front 0x3C), hhist,
    byteAt_of_code (attachStateCode_lt _) (back 0), byteAt_of_code (owned _) (back 1), byteAt_of_code (owned _) (back 2),
    byteAt_of_code (owned _) (back 3), byteAt_of_code (owned _) (back 4), byteAt_of_code (owned _) (back 5),
    hcmd, hnone,
    byteAt_of_byteOf (back 0x10), (wordAt_of_drop (back 0x14)).trans (by cases lines <;> rfl),
    byteAt_of_drop (front 0x03), byteAt_of_drop (front 0x13), halfAt_of_drop (x := 0) (front 0x32),
    byteAt_of_drop (back 0x11), halfAt_of_drop (x := 0) (back 0x12), back 24, ?_⟩
  cases hy : d.jr.layout with
  | none => exact captureLines_none hy
  | some l => exact captureLines_some hy

end Sys2Proof.LivenessAndCapture

/-! PROOFS. The watch table: the watch orders, the firing of a pair with each of its actions, the bytes that pairs match. -/

namespace Sys2Proof.WatchTable
open Sys2Proof.Machine Sys2Proof.LivenessAndCapture

/-! ### Watch orders (R121 to R123) -/

/-- R161: the post of an order that passes its checks, changes one entry of the watch table and completes at once. -/
theorem does_watchOrder {c : Instr} {s : State} {k : SlotId} {code target : Byte} {a : OrderAction} {i : WatchId}
    {g : WatchEntry → WatchEntry} (ho : Operating s) (hk : (s.slot k).st ≠ .accepted)
    (he : exec c s = .next (finish s (postOrder s k code target 0)))
    (hcheck : ∀ st b, checkOrder s (postedCopy s k code target 0 st b) = .ok a)
    (hrun : ∀ t, runAction t k a = slotDone (t.modWatch i g) k .complete 0) :
    Does c s (doneIn (s.modWatch i g) k code target 0) (postRuns s k code target 0 ++ doneRuns s k .complete 0) := by
  have hpost := postOrder_eq (s := s) (k := k) code target 0 ho.1 hk
  rw [hcheck] at hpost
  simp only [hrun] at hpost
  rw [hpost] at he
  refine does_of_effect he ?_ ?_ (.inl fun m => ⟨rfl, .inr rfl⟩) (waitsSettled_congr ho.2 (fun _ => rfl) rfl)
  · simp only [Becomes, slotDone_eq, afterPost, doneIn, setAttn_eq, State.modSlot, State.modWatch, State.store, vmod_vmod]
    rfl
  · have hw (c : SlotCopy) : Writes s ((afterPost s k code target 0 c).modWatch i g) (postRuns s k code target 0) :=
      writes_post (c := c) rfl
    exact writes_append (hw _) (writes_slotDone _ _ _ _)

section
variable {s : State} {c : SlotCopy} {i : WatchId} {f : WatchFields}

/-- R121: a WATCH_SET of the shelf, with parameters in range, passes its checks. -/
theorem checkOrder_watchSet (hcode : c.code = 0x20) (htarget : c.target = shelfByte) (hflags : c.flags = 0)
    (hp : watchSetOf c.params = some (i, f)) : checkOrder s c = .ok (.watchSet i f) := by
  have ho : orderCodeOf 0x20 = some .watchSet := rfl
  simp only [checkOrder, hcode, ho, htarget, targetOf_shelfByte, checkShelfOrder, withParams, hflags, hp, ne_eq,
    not_true_eq_false, if_false]

/-- R122: so does a WATCH_CLEAR. -/
theorem checkOrder_watchClear (hcode : c.code = 0x21) (htarget : c.target = shelfByte) (hflags : c.flags = 0)
    (hp : indexOf (byteAt c.params 0) = some i) : checkOrder s c = .ok (.watchClear i) := by
  have ho : orderCodeOf 0x21 = some .watchClear := rfl
  simp only [checkOrder, hcode, ho, htarget, targetOf_shelfByte, checkShelfOrder, withParams, hflags, hp, ne_eq,
    not_true_eq_false, if_false]

/-- R123: so does a WATCH_REARM of a node of a valid entry's node set. -/
theorem checkOrder_watchRearm {n : NodeId} (hcode : c.code = 0x22) (htarget : c.target = nodeByte n) (hflags : c.flags = 0)
    (hp : indexOf (byteAt c.params 0) = some i) (hf : (s.watchEntry i).fields = some f)
    (hv : (s.watchEntry i).valid = true) (hn : f.nodeSet.getLsbD n.val = true) :
    checkOrder s c = .ok (.watchRearm i (1 <<< n.val)) := by
  have ho : orderCodeOf 0x22 = some .watchRearm := rfl
  simp only [checkOrder, hcode, ho, htarget, targetOf_nodeByte, checkNodeOrder, checkRearm, WatchEntry.nodeSet, withParams,
    hflags, hp, hf, hv, hn, Option.map_some, Option.getD_some, ne_eq, not_true_eq_false, if_false, if_true]

theorem ofFn_get {α : Type} {n : Nat} (f : Fin n → α) (i : Fin n) : (Vector.ofFn f).get i = f i := by
  simp [vector_get_eq]

/-- A set of one node holds that node and no other. -/
theorem nodeSet_one_getLsbD (n m : NodeId) : ((1 <<< n.val : Nat) : BitVec 4).getLsbD m.val = decide (m = n) := by
  revert n m; decide

/-- R123: a rearming of one node arms its pair. -/
theorem rearmWatch_one (s : State) (i : WatchId) (n : NodeId) :
    rearmWatch s i (1 <<< n.val) =
      s.modWatch i fun e => { e with pairs := vmod e.pairs n fun p => { p with armed := true } } := by
  have hpairs (v : Vector Pair 4) :
      (Vector.ofFn fun m : NodeId =>
        if ((1 <<< n.val : Nat) : BitVec 4).getLsbD m.val then { v.get m with armed := true } else v.get m) =
      vmod v n fun p => { p with armed := true } := by
    refine vector_ext_get fun m => ?_
    simp only [ofFn_get, vmod_get, nodeSet_one_getLsbD, decide_eq_true_eq]
  simp only [rearmWatch, hpairs]

end

/-- Settles O34, order by order. -/
theorem watchOrders : Obligations.WatchOrders := by
  intro s k i f n ho hk runs
  refine ⟨fun hp => ?_, fun hp => ?_, fun hp hf hv hn => ?_⟩
  · exact does_watchOrder ho hk rfl (fun _ _ => checkOrder_watchSet rfl rfl rfl hp) fun _ => rfl
  · exact does_watchOrder ho hk rfl (fun _ _ => checkOrder_watchClear rfl rfl rfl hp) fun _ => rfl
  · exact does_watchOrder ho hk rfl (fun _ _ => checkOrder_watchRearm rfl rfl rfl hp hf hv hn) fun t => by
      simp only [runAction, rearmWatch_one]

/-! ### What the other units leave of a node's sequencer

The answers of an ORDER and of a BOOT_DONE speak of the node's sequencer, its recovery count and the clock. Every operation
is described by what it makes of these three; the port, the console, the journal and the frames leave them as they are. -/

/-- The clock, a node's sequencer and its recovery count. -/
structure Standing where
  now : Word
  sq : Sequencer
  recovery : Nat

def standing (s : State) (n : NodeId) : Standing :=
  { now := s.msclk, sq := (s.node n).sq, recovery := (s.node n).lv.recovery }

section
variable (s : State) (n m : NodeId)

@[simp] theorem standing_now : (standing s n).now = s.msclk := rfl

@[simp] theorem standing_pst : (standing s n).sq.pst = (s.node n).sq.pst := rfl

theorem standing_modNode {f : Node → Node} (hq : ∀ d, (f d).sq = d.sq) (hr : ∀ d, (f d).lv.recovery = d.lv.recovery) :
    standing (s.modNode m f) n = standing s n := by
  by_cases h : n = m
  · subst h; simp [standing, hq, hr]
  · simp [standing, h]

/-- An update of the node's sequencer alone. -/
theorem standing_modSq (f : Sequencer → Sequencer) :
    standing (s.modSq n f) n = { standing s n with sq := f (standing s n).sq } := by
  simp [standing]

@[simp] theorem standing_modCh (f : Channel → Channel) : standing (s.modCh m f) n = standing s n :=
  standing_modNode s n m (fun _ => rfl) fun _ => rfl

@[simp] theorem standing_modJr (f : Journal → Journal) : standing (s.modJr m f) n = standing s n :=
  standing_modNode s n m (fun _ => rfl) fun _ => rfl

@[simp] theorem standing_modPort (f : Port → Port) : standing (s.modPort m f) n = standing s n :=
  standing_modNode s n m (fun _ => rfl) fun _ => rfl

@[simp] theorem standing_modAtt (f : Attachment → Attachment) : standing (s.modAtt m f) n = standing s n :=
  standing_modNode s n m (fun _ => rfl) fun _ => rfl

@[simp] theorem standing_store (a : Nat) (bs : List Byte) : standing (s.store a bs) n = standing s n := rfl
@[simp] theorem standing_modFrame (f : FrameId) (g : Frame → Frame) : standing (s.modFrame f g) n = standing s n := rfl
@[simp] theorem standing_modEntry (e : EntryId) (g : Entry → Entry) : standing (s.modEntry e g) n = standing s n := rfl
@[simp] theorem standing_modPair (i : WatchId) (g : Pair → Pair) : standing (s.modPair i m g) n = standing s n := rfl

@[simp] theorem standing_ite (p : Prop) [Decidable p] (a b : State) :
    standing (if p then a else b) n = if p then standing a n else standing b n :=
  apply_ite (standing · n) p a b

/-- Steps of which each leaves a node's standing leave it together. -/
theorem standing_foldl {α : Type} {f : State → α → State} (h : ∀ s x, standing (f s x) n = standing s n) (xs : List α)
    (s : State) : standing (xs.foldl f s) n = standing s n := by
  induction xs generalizing s with
  | nil => rfl
  | cons x xs ih => exact (ih (f s x)).trans (h s x)

/-! Attention bits, event flags, results of orders. -/

@[simp] theorem standing_setAttn (b : AttnBit) : standing (setAttn s b) n = standing s n := rfl

@[simp] theorem standing_nodeEvent (e : NodeEvent) : standing (nodeEvent s m e) n = standing s n :=
  standing_modNode s n m (fun _ => rfl) fun _ => rfl

@[simp] theorem standing_slotDone (k : SlotId) (r : Result) (detail : Word) :
    standing (slotDone s k r detail) n = standing s n := rfl

@[simp] theorem standing_hangResult (r : Result) : standing (hangResult s m r) n = standing s n := by
  refine standing_modNode s n m (fun _ => rfl) fun d => ?_
  dsimp only
  split
  · split <;> rfl
  · rfl

@[simp] theorem standing_shedEnd (r : Result) : standing (shedEnd s m r) n = standing s n := rfl

@[simp] theorem standing_deliver (src : OrderSrc) (r : Result) (detail : Word) :
    standing (deliver s m src r detail) n = standing s n := by
  cases src with
  | slot k => rfl
  | watch i => simp only [deliver, watchOrderResult, standing_nodeEvent, standing_modPair]
  | hang => simp only [deliver, standing_nodeEvent, standing_hangResult]
  | shed => simp only [deliver, standing_nodeEvent, standing_shedEnd]

/-! The Console Channel and the Journal Writer. -/

@[simp] theorem standing_itemResult (i : TxItem) (r : Result) : standing (itemResult s i r) n = standing s n := by
  unfold itemResult; split <;> rfl

@[simp] theorem standing_discardTx : standing (discardTx s m) n = standing s n :=
  (standing_foldl n (fun s i => standing_itemResult s n i .aborted) _ _).trans (standing_modCh ..)

@[simp] theorem standing_marker (kind : MarkerKind) (arg : Nat) : standing (marker s m kind arg) n = standing s n := by
  unfold marker; dsimp only
  split
  · rfl
  · split
    · exact (standing_modJr ..).trans (standing_store ..)
    · exact (standing_nodeEvent ..).trans (standing_modJr ..)

@[simp] theorem standing_bootMarker (kind : MarkerKind) : standing (bootMarker s m kind) n = standing s n :=
  standing_marker ..

/-! The Frame Controller and the Media Port. -/

@[simp] theorem standing_dropWaiter (w : Waiter) : standing (dropWaiter s w) n = standing s n := rfl

@[simp] theorem standing_dropDirty (f : FrameId) : standing (dropDirty s m f) n = standing s n := standing_modAtt ..

@[simp] theorem standing_freeFrame (f : FrameId) : standing (freeFrame s f) n = standing s n := by
  unfold freeFrame; dsimp only
  rw [standing_modFrame]
  split
  · next m _ _ => exact standing_dropDirty s n m f
  · rfl

@[simp] theorem standing_freeAssembling : standing (freeAssembling s m) n = standing s n :=
  standing_foldl n (fun s f => by simp) _ _

@[simp] theorem standing_postEntry (e : EntryId) (r : Request) : standing (postEntry s e r) n = standing s n := by
  unfold postEntry; dsimp only
  rw [standing_setAttn]
  split <;> simp

@[simp] theorem standing_requestTransfer (k : TransferKind) (f : FrameId) :
    standing (requestTransfer s k f) n = standing s n := by
  unfold requestTransfer; dsimp only
  split
  · exact standing_postEntry ..
  · rfl

@[simp] theorem standing_requestFlush (f : FrameId) : standing (requestFlush s f) n = standing s n := by simp [requestFlush]

@[simp] theorem standing_flushOldest : standing (flushOldest s m) n = standing s n := by
  unfold flushOldest; split <;> simp

theorem standing_allocate {s t : State} {m : NodeId} {tag : Nat} {assemble : Bool} (h : allocate s m tag assemble = some t)
    (n : NodeId) : standing t n = standing s n := by
  unfold allocate at h
  split at h
  · cases h; rfl
  · split at h
    · cases h
    · split at h <;> cases h
      · rfl
      · exact standing_requestTransfer ..

theorem standing_waiterAllocate {s t : State} {w : Waiter} (h : waiterAllocate s w = some t) (n : NodeId) :
    standing t n = standing s n := by
  cases w with
  | prefetch m => exact standing_allocate h n
  | command m =>
    unfold waiterAllocate at h
    dsimp only at h
    split at h
    · exact standing_allocate h n
    · cases h; rfl

@[simp] theorem standing_tryWaiter (w : Waiter) : standing (tryWaiter s w) n = standing s n := by
  unfold tryWaiter
  cases h : waiterAllocate s w with
  | none => exact standing_flushOldest ..
  | some t => exact standing_waiterAllocate h n

@[simp] theorem standing_retryWaits : standing (retryWaits s) n = standing s n :=
  standing_foldl n (fun s w => standing_tryWaiter s n w) _ _

@[simp] theorem standing_resetCommand : standing (resetCommand s m) n = standing s n := by
  unfold resetCommand; split <;> simp [-State.modPort_eq]

@[simp] theorem standing_portPowerReset : standing (portPowerReset s m) n = standing s n :=
  (standing_modPort ..).trans (standing_resetCommand ..)

/-! ### What the sequencer's own operations make of it -/

@[simp] theorem change_recovery (l : Liveness) (old new : PState) (now : Word) :
    (l.change old new now).recovery = l.recovery := by
  unfold Liveness.change; split
  · rfl
  · split <;> rfl

/-- R1: the standing of a node that moves to a state. -/
def Standing.moved (v : Standing) (st : PState) : Standing :=
  if v.sq.pst = st then v
  else { v with sq := { v.sq.enter st v.now with
                        admT := if st = .queued then startUnlessZero (v.sq.profile.admissionTimeoutS * 1000) else none } }

/-- R8: the standing of a node whose order in progress, if any, has completed. -/
def Standing.completed (v : Standing) (r : Result) (detail : Word) : Standing :=
  match v.sq.order with
  | none => v
  | some o => { v with sq := v.sq.closed o r detail v.now }

/-- R8: the standing of a node with a completed order recorded. -/
def Standing.recorded (v : Standing) (code : PowerCode) (r : Result) (detail : Word) : Standing :=
  { v with sq := { v.sq with last := { code := byteOf code.code, result := byteOf r.code, detail := detail, time := v.now } } }

/-- R6: the standing of a node with an order in progress that has just begun. -/
def Standing.ordered (v : Standing) (code : PowerCode) (src : OrderSrc) (flags : Byte) : Standing :=
  { v with sq := { v.sq with order := some { code := code, src := src, flags := flags, since := v.now, detail := 0 } } }

theorem standing_changeState (st : PState) : standing (changeState s n st) n = (standing s n).moved st := by
  unfold Standing.moved
  by_cases h : (s.node n).sq.pst = st
  · rw [changeState_same s n h, if_pos (show (standing s n).sq.pst = st from h)]
  · rw [changeState_eq s n st h, if_neg (show ¬ (standing s n).sq.pst = st from h)]
    unfold standing
    rw [State.modNode_node_self, change_recovery]
    rfl

theorem standing_leavePower (st : PState) : standing (leavePower s n st) n = (standing s n).moved st := by
  have hdrop (t : State) : standing (dropPower t n) n = standing t n := by
    unfold dropPower; dsimp only; split <;> simp
  simp only [leavePower, standing_ite, hdrop, ite_self, standing_changeState]

theorem standing_setOrder (code : PowerCode) (src : OrderSrc) (flags : Byte) :
    standing (setOrder s n code src flags) n = (standing s n).ordered code src flags :=
  standing_modSq ..

theorem standing_recordCompletion (code : PowerCode) (src : OrderSrc) (r : Result) (detail : Word) :
    standing (recordCompletion s n code src r detail) n = (standing s n).recorded code r detail :=
  (standing_deliver ..).trans (standing_modSq ..)

theorem standing_completeOrder (r : Result) (detail : Word) :
    standing (completeOrder s n r detail) n = (standing s n).completed r detail := by
  have ho : (standing s n).sq.order = (s.node n).sq.order := rfl
  unfold completeOrder Standing.completed
  cases h : (s.node n).sq.order with
  | none => rw [ho, h]
  | some o =>
    rw [ho, h]
    exact (standing_recordCompletion ..).trans (congrArg (Standing.recorded · _ _ _) (standing_modSq ..))

end

/-! What a move and a completion leave. -/

section
variable (v : Standing) (st : PState) (r : Result) (detail : Word)

@[simp] theorem moved_now : (v.moved st).now = v.now := by unfold Standing.moved; split <;> rfl
@[simp] theorem moved_recovery : (v.moved st).recovery = v.recovery := by unfold Standing.moved; split <;> rfl
@[simp] theorem moved_order : (v.moved st).sq.order = v.sq.order := by unfold Standing.moved; split <;> rfl

@[simp] theorem moved_pst : (v.moved st).sq.pst = st := by
  unfold Standing.moved; split
  · next h => exact h
  · rfl

theorem moved_bootT (h : v.sq.pst ≠ st) (hb : st ≠ .booting) : (v.moved st).sq.bootT = none := by
  simp [Standing.moved, h, Sequencer.enter, keepTimer, hb]

@[simp] theorem completed_now : (v.completed r detail).now = v.now := by unfold Standing.completed; split <;> rfl
@[simp] theorem completed_recovery : (v.completed r detail).recovery = v.recovery := by
  unfold Standing.completed; split <;> rfl
@[simp] theorem completed_pst : (v.completed r detail).sq.pst = v.sq.pst := by unfold Standing.completed; split <;> rfl
@[simp] theorem completed_bootT : (v.completed r detail).sq.bootT = v.sq.bootT := by
  unfold Standing.completed; split <;> rfl

theorem completed_last {o : PowerOrder} (h : v.sq.order = some o) : (v.completed r detail).sq.last =
    { code := byteOf o.code.code, result := byteOf r.code, detail := o.detail ||| detail, time := v.now } := by
  simp only [Standing.completed, h, Sequencer.closed]

@[simp] theorem completed_order : (v.completed r detail).sq.order = none := by
  unfold Standing.completed; split
  · next h => exact h
  · rfl

end

/-! ### Event flags (R173) -/

/-- A node event flag is set. -/
def Flagged (s : State) (n : NodeId) (e : NodeEvent) : Prop := (s.node n).events.getLsbD e.bit = true

section
variable {s : State} {n m : NodeId} {e : NodeEvent}

theorem flagged_nodeEvent (s : State) (n : NodeId) (e : NodeEvent) : Flagged (nodeEvent s n e) n e := by
  have hbit : (bitWord e.bit).getLsbD e.bit = true := by cases e <;> rfl
  simp [Flagged, nodeEvent_node_self, hbit]

/-- No event flag is cleared by the setting of one. -/
theorem Flagged.nodeEvent (h : Flagged s n e) (m : NodeId) (x : NodeEvent) : Flagged (nodeEvent s m x) n e := by
  by_cases hm : n = m
  · subst hm
    unfold Flagged at h ⊢
    simp [nodeEvent_node_self, h]
  · have hn : (Machine.nodeEvent s m x).node n = s.node n := State.modNode_node_ne _ _ hm
    unfold Flagged; rw [hn]; exact h

theorem Flagged.modNode (h : Flagged s n e) {f : Node → Node} (hf : ∀ d, (f d).events = d.events) :
    Flagged (s.modNode m f) n e := by
  unfold Flagged at h ⊢
  rw [State.modNode_node]
  split
  · rw [hf]; exact h
  · exact h

/-- Nor by the result of an order. -/
theorem Flagged.deliver (h : Flagged s n e) (m : NodeId) (src : OrderSrc) (r : Result) (detail : Word) :
    Flagged (deliver s m src r detail) n e := by
  cases src with
  | slot k => exact h
  | watch i => exact Flagged.nodeEvent (s := watchOrderResult s i m r) h m _
  | hang => exact (h.modNode fun _ => rfl : Flagged (hangResult s m r) n e).nodeEvent m _
  | shed => exact Flagged.nodeEvent (s := shedEnd s m r) h m _

theorem Flagged.modSq (h : Flagged s n e) (m : NodeId) (f : Sequencer → Sequencer) : Flagged (s.modSq m f) n e :=
  h.modNode fun _ => rfl

theorem Flagged.recordCompletion (h : Flagged s n e) (m : NodeId) (code : PowerCode) (src : OrderSrc) (r : Result)
    (detail : Word) : Flagged (recordCompletion s m code src r detail) n e :=
  (h.modSq m _).deliver ..

theorem Flagged.completeOrder (h : Flagged s n e) (m : NodeId) (r : Result) (detail : Word) :
    Flagged (completeOrder s m r detail) n e := by
  unfold Machine.completeOrder
  split
  · exact h
  · exact (h.modSq m _).recordCompletion ..

theorem Flagged.completePowerUp (h : Flagged s n e) (m : NodeId) (detail : Word) :
    Flagged (completePowerUp s m detail) n e := by
  unfold Machine.completePowerUp
  split
  · exact h.completeOrder ..
  · exact h

end

/-! ### The power orders of an ORDER action (R7, R23 to R27, R37) -/

theorem acceptedIn_iff_mem_states (c : PowerCode) (p : PState) : c.acceptedIn p = true ↔ p ∈ c.states := by
  cases c <;> cases p <;> decide

/-- R7, R37: the checks of a power order that an ORDER action can issue, its flags its own. -/
theorem powerCheck_watchOrder (s : State) (n : NodeId) {c : PowerCode} {flags : Byte}
    (hc : c ∈ [PowerCode.powerOff, .forceOff, .reset, .cycle, .nmi]) (hf : flags &&& ~~~c.ownFlags = 0) :
    powerCheck s n c flags =
      if (s.node n).sq.pst = .absent then refusal .nodeAbsent
      else if c ∈ [PowerCode.powerOff, .nmi] ∧ (s.node n).sq.order ≠ none then refusal .busy
      else if (s.node n).sq.pst ∉ c.states then refusal .incorrectState
      else if c = .cycle ∧ (s.node n).sq.profile.inrushW > s.shelf.limit then refusal .noBudget
      else none := by
  have hbusy : (c.checksBusy && (s.node n).sq.order.isSome) = true ↔
      c ∈ [PowerCode.powerOff, .nmi] ∧ (s.node n).sq.order ≠ none := by
    rw [Bool.and_eq_true, Option.isSome_iff_ne_none]
    refine and_congr_left' ?_
    clear hf; revert c; decide
  have hstate : (!c.acceptedIn (s.node n).sq.pst) = true ↔ (s.node n).sq.pst ∉ c.states := by
    rw [← acceptedIn_iff_mem_states, Bool.not_eq_true', Bool.not_eq_true]
  have hfinal : finalCheck s n c =
      if c = .cycle ∧ (s.node n).sq.profile.inrushW > s.shelf.limit then refusal .noBudget else none := by
    simp only [List.mem_cons, List.not_mem_nil, or_false] at hc
    rcases hc with rfl | rfl | rfl | rfl | rfl <;> simp [finalCheck]
  unfold powerCheck
  simp only [hbusy, hf, ne_eq, not_true_eq_false, if_false, hstate, hfinal]

/-- The order has just begun, and the node stands in a state; its recovery count is as it was (R6, R117). -/
def Begins (s u : State) (n : NodeId) (c : PowerCode) (src : OrderSrc) (flags : Byte) (st : PState) : Prop :=
  (standing u n).recovery = (standing s n).recovery ∧
    (standing u n).sq.order = some { code := c, src := src, flags := flags, since := s.msclk, detail := 0 } ∧
    (standing u n).sq.pst = st

section
variable (s : State) (n : NodeId) (src : OrderSrc) (flags : Byte)

theorem standing_supersede : standing (supersede s n) n = (standing s n).completed .superseded 0 :=
  standing_completeOrder ..

theorem standing_enterGated : standing (enterGated s n) n =
    let v := (standing s n).moved .gated
    { v with sq := { v.sq with
        resetT := some (Timer.start v.sq.profile.resetMs),
        gateT := if v.sq.prefetch = .waiting then startUnlessZero v.sq.profile.gateTimeoutMs else none } } := by
  simp only [enterGated, standing_modSq, standing_changeState]

/-- R21. -/
theorem powerOff_begins : Begins s (actPower s n .powerOff src flags) n .powerOff src flags .stopping := by
  simp only [Begins, actPower, standing_modSq, standing_changeState, standing_setOrder]
  simp [Standing.ordered]

/-- R24. -/
theorem reset_begins : Begins s (actPower s n .reset src flags) n .reset src 0 .gated := by
  simp only [Begins, actPower, actReset, standing_bootMarker, standing_portPowerReset, standing_enterGated,
    standing_setOrder, standing_supersede]
  simp [Standing.ordered]

/-- R25. -/
theorem cycle_begins : Begins s (actPower s n .cycle src flags) n .cycle src 0 .dwell := by
  simp only [Begins, actPower, actCycle, standing_modSq, standing_portPowerReset, standing_leavePower, standing_setOrder,
    standing_supersede]
  simp [Standing.ordered]

/-- R27. -/
theorem nmi_begins : Begins s (actPower s n .nmi src flags) n .nmi src flags (s.node n).sq.pst := by
  simp only [Begins, actPower, standing_bootMarker, standing_modSq, standing_setOrder]
  simp [Standing.ordered]

/-- R23: a FORCE_OFF completes at once. -/
theorem standing_forceOff : standing (actPower s n .forceOff src flags) n =
    (((standing s n).completed .superseded 0).moved .off).recorded .forceOff .complete 0 := by
  simp only [actPower, actForceOff, standing_recordCompletion, standing_leavePower, standing_supersede]

end

/-! ### Firing (R111 to R113) -/

/-- R113, steps 1 to 3: the pair has fired and WATCH_FIRED is set; the action is yet to come. -/
def fired (s : State) (i : WatchId) (n : NodeId) (f : WatchFields) : State :=
  nodeEvent (s.modPair i n fun p => p.fire f s.msclk) n .watchFired

/-- What the match leaves: the state that the action leaves, with the result recorded in the pair. -/
def Answers (s : State) (i : WatchId) (n : NodeId) (u : State) (r : LastResult) : Prop :=
  takeMatch n s i = u.modPair i n fun p => { p with result := r }

section
variable (s : State) (i : WatchId) (n : NodeId) (f : WatchFields)

theorem fired_node :
    (fired s i n f).node n = { s.node n with events := (s.node n).events ||| bitWord NodeEvent.watchFired.bit } :=
  nodeEvent_node_self ..

@[simp] theorem fired_sq : ((fired s i n f).node n).sq = (s.node n).sq := by rw [fired_node]
@[simp] theorem fired_ch : ((fired s i n f).node n).ch = (s.node n).ch := by rw [fired_node]
@[simp] theorem fired_jr : ((fired s i n f).node n).jr = (s.node n).jr := by rw [fired_node]
@[simp] theorem fired_shelf : (fired s i n f).shelf = s.shelf := rfl

/-- A result recorded after WATCH_FIRED is one with the firing. -/
theorem fired_modPair (g : Pair → Pair) :
    (fired s i n f).modPair i n g = nodeEvent (s.modPair i n fun p => g (p.fire f s.msclk)) n .watchFired := by
  simp only [fired, nodeEvent_eq, State.modPair, State.modWatch, vmod_vmod]
  rfl

@[simp] theorem standing_fired : standing (fired s i n f) n = standing s n :=
  (standing_nodeEvent ..).trans (standing_modPair ..)

end

section
variable {s : State} {i : WatchId} {n : NodeId} {f : WatchFields}

/-- R112: a match within the holdoff. -/
theorem takeMatch_heldOff (hf : (s.watchEntry i).fields = some f) (hh : (s.pair i n).holdoffT ≠ none) :
    takeMatch n s i = s.modPair i n Pair.suppress := by
  simp only [takeMatch, hf, Option.isSome_iff_ne_none.mpr hh, if_true]

/-- R113: any other match fires the pair and issues the action. -/
theorem takeMatch_fires (hf : (s.watchEntry i).fields = some f) (hh : (s.pair i n).holdoffT = none) :
    Answers s i n (issueAction (fired s i n f) i n f.action).1 (issueAction (fired s i n f) i n f.action).2 := by
  simp only [Answers, takeMatch, hf, hh, Option.isSome_none, Bool.false_eq_true, if_false, fireEntry, fired]

theorem answers_of_issue {a : WatchAction} {u : State} {r : LastResult} (hf : (s.watchEntry i).fields = some f)
    (hh : (s.pair i n).holdoffT = none) (ha : f.action = a) (h : issueAction (fired s i n f) i n a = (u, r)) :
    Answers s i n u r := by
  have hm := takeMatch_fires hf hh
  rwa [ha, h] at hm

end

/-! ### What each action records (R115 to R120) -/

section
variable {s : State} {n : NodeId} (i : WatchId)

/-- R115: a MARK with no layout. -/
theorem issueAction_mark_none (hl : (s.node n).jr.layout = none) :
    issueAction s i n .mark = (s, .ended .invalidParameter) := by
  simp only [issueAction, marker_none s n hl, markResult, hl]

/-- R115: a MARK by the room of the journal. -/
theorem issueAction_mark_some {l : Layout} (hl : (s.node n).jr.layout = some l) :
    issueAction s i n .mark = (marker s n .watch i.val,
      .ended (if l.lossless = false ∨ l.body - ((s.node n).jr.bodyCount - (s.node n).jr.fence) ≠ 0 then .complete
        else .busy)) := by
  simp only [issueAction, markResult, hl, Journal.room, Journal.free, Bool.or_eq_true, Bool.not_eq_true', bne_iff_ne]

/-- R80, R116: an INJECT by its checks. -/
theorem issueAction_inject (p : TxPayload) : issueAction s i n (.inject p) =
    if (s.node n).sq.pst = .absent then (s, .ended .nodeAbsent)
    else if 4 ≤ (s.node n).ch.txq.length then (s, .ended .busy)
    else if (s.node n).sq.pwrEn = false then (s, .ended .incorrectState)
    else (s.modCh n fun c => Channel.beginHead { c with txq := c.txq ++ [{ payload := p, src := .watch i }] },
      .ended .complete) := by
  unfold issueAction injectAction injectCheck
  dsimp only
  split
  · rfl
  · split
    · rfl
    · cases (s.node n).sq.pwrEn <;> rfl

/-- R117: an order refused. -/
theorem issueAction_power_refused {c : PowerCode} {flags : Byte} {r : Refused} (h : powerCheck s n c flags = some r) :
    issueAction s i n (.power c flags) = (s, .ended r.result) := by
  simp only [issueAction, orderAction, h]

/-- R117: an order accepted. -/
theorem issueAction_power_accepted {c : PowerCode} {flags : Byte} (h : powerCheck s n c flags = none) :
    issueAction s i n (.power c flags) =
      (actPower s n c (.watch i) flags, if c = .forceOff then .ended .complete else .accepted) := by
  simp only [issueAction, orderAction, h]

/-- R119: a BOOT_DONE outside BOOTING. -/
theorem issueAction_bootDone_refused (h : (s.node n).sq.pst ≠ .booting) :
    issueAction s i n .bootDone = (s, .ended .incorrectState) := by
  simp only [issueAction, if_neg h]

/-- R119: a BOOT_DONE at a BOOTING node. -/
theorem issueAction_bootDone_booting (h : (s.node n).sq.pst = .booting) :
    issueAction s i n .bootDone = (bootDone s n, .ended .complete) := by
  simp only [issueAction, if_pos h]

/-- R120: a FREEZE_TAIL where the journal has no layout, or no tail. -/
theorem issueAction_freezeTail_skipped (h : freezeOutcome (s.node n).jr = .skipped) :
    issueAction s i n .freezeTail = (s, .ended .invalidParameter) := by
  simp only [issueAction, freezeTail, freezeResult, h]

/-- R101, R120: a FREEZE_TAIL where a tail is held. -/
theorem issueAction_freezeTail_missed (h : freezeOutcome (s.node n).jr = .missed) :
    issueAction s i n .freezeTail =
      (s.modJr n fun j => { j with tailMissed := bump 255 j.tailMissed }, .ended .incorrectState) := by
  simp only [issueAction, freezeTail, freezeResult, h]

/-- R100, R120: a FREEZE_TAIL that freezes. -/
theorem issueAction_freezeTail_frozen (h : freezeOutcome (s.node n).jr = .frozen) :
    issueAction s i n .freezeTail = (freezeTail s n .watch, .ended .complete) := by
  simp only [issueAction, freezeResult, h]

end

/-! ### What a BOOT_DONE and a FREEZE_TAIL leave (R18, R100) -/

section
variable {s : State} {n : NodeId}

theorem standing_bootDone (s : State) (n : NodeId) : standing (bootDone s n) n =
    if orderIs s n [.powerOn, .cycle] then ((standing s n).moved .running).completed .complete 0
    else (standing s n).moved .running := by
  have hv : standing (nodeEvent (changeState s n .running) n .bootDone) n = (standing s n).moved .running :=
    (standing_nodeEvent ..).trans (standing_changeState ..)
  have ho : ((nodeEvent (changeState s n .running) n .bootDone).node n).sq.order = (s.node n).sq.order :=
    (congrArg (·.sq.order) hv).trans (moved_order ..)
  have hc : orderIs (nodeEvent (changeState s n .running) n .bootDone) n [.powerOn, .cycle] =
      orderIs s n [.powerOn, .cycle] := by
    simp only [orderIs, ho]
  simp only [bootDone, completePowerUp, hc, standing_ite, standing_completeOrder, hv]

/-- R18: the node is RUNNING, its boot timer stopped, and BOOT_DONE set. -/
theorem bootDone_runs (h : (s.node n).sq.pst = .booting) :
    ((bootDone s n).node n).sq.pst = .running ∧ ((bootDone s n).node n).sq.bootT = none ∧
      Flagged (bootDone s n) n .bootDone := by
  have hv := standing_bootDone s n
  have hb : ((standing s n).moved .running).sq.bootT = none := moved_bootT _ _ (by simp [h]) (by decide)
  refine ⟨?_, ?_, (flagged_nodeEvent _ n .bootDone).completePowerUp ..⟩
  · refine (congrArg (·.sq.pst) hv).trans ?_
    split <;> simp
  · refine (congrArg (·.sq.bootT) hv).trans ?_
    split <;> simp [hb]

/-- R18: a power-up order completes; any other order goes on. -/
theorem bootDone_order {o : PowerOrder} (ho : (s.node n).sq.order = some o) :
    if o.code = .powerOn ∨ o.code = .cycle then
      ((bootDone s n).node n).sq.order = none ∧
        ((bootDone s n).node n).sq.last = { code := byteOf o.code.code, result := 0, detail := o.detail, time := s.msclk }
    else ((bootDone s n).node n).sq.order = some o := by
  have hv := standing_bootDone s n
  have hs : ((standing s n).moved .running).sq.order = some o := (moved_order ..).trans ho
  have hc : orderIs s n [.powerOn, .cycle] = true ↔ o.code = .powerOn ∨ o.code = .cycle := by
    simp [orderIs, ho]
  simp only [hc] at hv
  split at hv
  · next h =>
    rw [if_pos h]
    refine ⟨(congrArg (·.sq.order) hv).trans (completed_order ..), (congrArg (·.sq.last) hv).trans ?_⟩
    have hz : o.detail ||| 0 = o.detail := BitVec.or_zero
    rw [completed_last _ _ _ hs, moved_now, standing_now, hz]
    rfl
  · next h =>
    rw [if_neg h]
    exact (congrArg (·.sq.order) hv).trans hs

/-- A marker leaves the tail and the count of the requests missed. -/
theorem marker_tail (s : State) (n : NodeId) (kind : MarkerKind) (arg : Nat) :
    ((marker s n kind arg).node n).jr.tail = (s.node n).jr.tail ∧
      ((marker s n kind arg).node n).jr.tailMissed = (s.node n).jr.tailMissed := by
  unfold marker; dsimp only
  split
  · exact ⟨rfl, rfl⟩
  · split
    · simp [writeBody]
    · simp [nodeEvent_node_self]

/-- R100: a freeze that copies. -/
theorem freezeTail_frozen {l : Layout} (reason : TailReason) (hl : (s.node n).jr.layout = some l)
    (h : freezeOutcome (s.node n).jr = .frozen) : freezeTail s n reason = freezeCopy s n l reason := by
  simp only [freezeTail, h, hl]

/-- R100: what a freeze that copies leaves of the tail. -/
theorem freezeCopy_tail (s : State) (n : NodeId) (l : Layout) (reason : TailReason) :
    let t := ((freezeCopy s n l reason).node n).jr
    t.tail.held = true ∧ t.tail.reason = reason ∧ t.tail.count = newestCount (s.node n).jr l l.tail ∧ t.tailMissed = 0 ∧
      Flagged (freezeCopy s n l reason) n .tailFrozen := by
  unfold freezeCopy
  dsimp only
  simp only [nodeEvent_node_self, marker_tail, State.modJr_eq, State.modNode_node_self, true_and]
  exact flagged_nodeEvent ..

end

/-! ### An ORDER action (R117) -/

/-- R23, R117: a FORCE_OFF action completes in its event and sets AUTO_ORDER. -/
theorem forceOff_ends (s : State) (i : WatchId) (n : NodeId) (flags : Byte) :
    let u := actPower s n .forceOff (.watch i) flags
    (standing u n).recovery = (standing s n).recovery ∧ (standing u n).sq.pst = .off ∧ (standing u n).sq.order = none ∧
      (standing u n).sq.last = { code := 0x03, result := 0, detail := 0, time := s.msclk } ∧ Flagged u n .autoOrder := by
  intro u
  have hv : standing u n = _ := standing_forceOff s n (.watch i) flags
  have hflag : Flagged u n .autoOrder := flagged_nodeEvent _ n .autoOrder
  rw [hv]
  refine ⟨by simp [Standing.recorded], by simp [Standing.recorded], by simp [Standing.recorded], ?_, hflag⟩
  simp only [Standing.recorded, moved_now, completed_now, standing_now]; rfl

/-- An order whose own flags are none, with flags its own. -/
theorem flags_eq_zero {flags : Byte} (hfl : flags &&& ~~~(0 : Byte) = 0) : flags = 0 := by
  have hones : ~~~(0 : Byte) = BitVec.allOnes 8 := rfl
  rwa [hones, BitVec.and_allOnes] at hfl

/-- R21, R24, R25, R27: an accepted order other than FORCE_OFF is in progress. -/
theorem watchOrder_begins (s : State) (n : NodeId) (src : OrderSrc) {c : PowerCode} {flags : Byte}
    (hc : c ∈ [PowerCode.powerOff, .forceOff, .reset, .cycle, .nmi]) (hfl : flags &&& ~~~c.ownFlags = 0)
    (hn : c ≠ .forceOff) :
    Begins s (actPower s n c src flags) n c src flags
      (if c = .powerOff then .stopping else if c = .reset then .gated else if c = .cycle then .dwell
        else (s.node n).sq.pst) := by
  simp only [List.mem_cons, List.not_mem_nil, or_false] at hc
  rcases hc with rfl | rfl | rfl | rfl | rfl
  · exact powerOff_begins s n src flags
  · exact absurd rfl hn
  · cases flags_eq_zero hfl; exact reset_begins s n src 0
  · cases flags_eq_zero hfl; exact cycle_begins s n src 0
  · exact nmi_begins s n src flags

/-- R117: an ORDER that passes its checks acts; FORCE_OFF completes in its event, and any other order is in progress. -/
def OrderActs (s : State) (i : WatchId) (n : NodeId) (f : WatchFields) (c : PowerCode) (flags : Byte) : Prop :=
  let u := actPower (fired s i n f) n c (.watch i) flags
  Answers s i n u (if c = .forceOff then .ended .complete else .accepted) ∧
    (u.node n).lv.recovery = (s.node n).lv.recovery ∧
    (if c = .forceOff then
      (u.node n).sq.pst = .off ∧ (u.node n).sq.order = none ∧
        (u.node n).sq.last = { code := 0x03, result := 0, detail := 0, time := s.msclk } ∧ Flagged u n .autoOrder
    else
      (u.node n).sq.order = some { code := c, src := .watch i, flags := flags, since := s.msclk, detail := 0 } ∧
        (u.node n).sq.pst =
          (if c = .powerOff then .stopping else if c = .reset then .gated else if c = .cycle then .dwell
          else (s.node n).sq.pst))

/-! ### The answers to a match, action by action (R115 to R120) -/

/-- Checks in their order: each way of one is shown under its outcome. -/
theorem ite_intro {p a b : Prop} [Decidable p] (ha : p → a) (hb : ¬ p → b) : if p then a else b := by
  by_cases h : p
  · rw [if_pos h]; exact ha h
  · rw [if_neg h]; exact hb h

section
variable {s : State} {i : WatchId} {n : NodeId} {f : WatchFields} (hf : (s.watchEntry i).fields = some f)
  (hh : (s.pair i n).holdoffT = none)
include hf hh

/-- R115: a NOTE. -/
theorem answers_note (ha : f.action = .note) : Answers s i n (fired s i n f) (.ended .complete) :=
  answers_of_issue hf hh ha rfl

/-- R115: a MARK, by the room of the journal. -/
theorem answers_mark (ha : f.action = .mark) {l : Layout} (hl : (s.node n).jr.layout = some l) :
    Answers s i n (marker (fired s i n f) n .watch i.val)
      (.ended (if l.lossless = false ∨ l.body - ((s.node n).jr.bodyCount - (s.node n).jr.fence) ≠ 0 then .complete
        else .busy)) := by
  have h := issueAction_mark_some (s := fired s i n f) (n := n) (l := l) i (by simpa using hl)
  rw [fired_jr] at h
  exact answers_of_issue hf hh ha h

/-- R116: an INJECT, by its checks. -/
theorem answers_inject {p : TxPayload} (ha : f.action = .inject p) :
    if (s.node n).sq.pst = .absent then Answers s i n (fired s i n f) (.ended .nodeAbsent)
    else if 4 ≤ (s.node n).ch.txq.length then Answers s i n (fired s i n f) (.ended .busy)
    else if (s.node n).sq.pwrEn = false then Answers s i n (fired s i n f) (.ended .incorrectState)
    else Answers s i n ((fired s i n f).modCh n fun c =>
      Channel.beginHead { c with txq := c.txq ++ [{ payload := p, src := .watch i }] }) (.ended .complete) := by
  have h := takeMatch_fires hf hh
  rw [ha, issueAction_inject] at h
  simp only [fired_sq, fired_ch] at h
  refine ite_intro (fun h1 => ?_) fun h1 => ite_intro (fun h2 => ?_) fun h2 => ite_intro (fun h3 => ?_) fun h3 => ?_
  · rw [if_pos h1] at h; exact h
  · rw [if_neg h1, if_pos h2] at h; exact h
  · rw [if_neg h1, if_neg h2, if_pos h3] at h; exact h
  · rw [if_neg h1, if_neg h2, if_neg h3] at h; exact h

/-- R117: an ORDER refused by its checks. -/
theorem answers_power_refused {c : PowerCode} {flags : Byte} {r : Result} (ha : f.action = .power c flags)
    (h : powerCheck (fired s i n f) n c flags = refusal r) : Answers s i n (fired s i n f) (.ended r) :=
  answers_of_issue hf hh ha (issueAction_power_refused i h)

/-- R117: an ORDER accepted. -/
theorem answers_power_accepted {c : PowerCode} {flags : Byte} (ha : f.action = .power c flags)
    (hc : c ∈ [PowerCode.powerOff, .forceOff, .reset, .cycle, .nmi]) (hfl : flags &&& ~~~c.ownFlags = 0)
    (h : powerCheck (fired s i n f) n c flags = none) : OrderActs s i n f c flags := by
  refine ⟨answers_of_issue hf hh ha (issueAction_power_accepted i h), ?_⟩
  have hs : (standing (fired s i n f) n).recovery = (s.node n).lv.recovery := by rw [standing_fired]; rfl
  by_cases hn : c = .forceOff
  · subst hn
    obtain ⟨hr, hends⟩ := forceOff_ends (fired s i n f) i n flags
    exact ⟨hr.trans hs, by rw [if_pos rfl]; exact hends⟩
  · obtain ⟨hr, hbegins⟩ := watchOrder_begins (fired s i n f) n (.watch i) hc hfl hn
    rw [fired_sq] at hbegins
    exact ⟨hr.trans hs, by rw [if_neg hn]; exact hbegins⟩

/-- R7, R37, R117: an ORDER, by its checks. -/
theorem answers_power {c : PowerCode} {flags : Byte} (ha : f.action = .power c flags)
    (hc : c ∈ [PowerCode.powerOff, .forceOff, .reset, .cycle, .nmi]) (hfl : flags &&& ~~~c.ownFlags = 0) :
    if (s.node n).sq.pst = .absent then Answers s i n (fired s i n f) (.ended .nodeAbsent)
    else if c ∈ [PowerCode.powerOff, .nmi] ∧ (s.node n).sq.order ≠ none then Answers s i n (fired s i n f) (.ended .busy)
    else if (s.node n).sq.pst ∉ c.states then Answers s i n (fired s i n f) (.ended .incorrectState)
    else if c = .cycle ∧ (s.node n).sq.profile.inrushW > s.shelf.limit then
      Answers s i n (fired s i n f) (.ended .noBudget)
    else OrderActs s i n f c flags := by
  have hcheck := powerCheck_watchOrder (fired s i n f) n hc hfl
  simp only [fired_sq, fired_shelf] at hcheck
  refine ite_intro (fun h1 => ?_) fun h1 => ite_intro (fun h2 => ?_) fun h2 => ite_intro (fun h3 => ?_) fun h3 =>
    ite_intro (fun h4 => ?_) fun h4 => ?_
  · rw [if_pos h1] at hcheck; exact answers_power_refused hf hh ha hcheck
  · rw [if_neg h1, if_pos h2] at hcheck; exact answers_power_refused hf hh ha hcheck
  · rw [if_neg h1, if_neg h2, if_pos h3] at hcheck; exact answers_power_refused hf hh ha hcheck
  · rw [if_neg h1, if_neg h2, if_neg h3, if_pos h4] at hcheck; exact answers_power_refused hf hh ha hcheck
  · rw [if_neg h1, if_neg h2, if_neg h3, if_neg h4] at hcheck; exact answers_power_accepted hf hh ha hc hfl hcheck

/-- R119: a BOOT_DONE at a BOOTING node. -/
theorem answers_bootDone (ha : f.action = .bootDone) (hp : (s.node n).sq.pst = .booting) :
    Answers s i n (bootDone (fired s i n f) n) (.ended .complete) :=
  answers_of_issue hf hh ha (issueAction_bootDone_booting i (by simpa using hp))

/-- R120: a FREEZE_TAIL at a journal with a layout, by its tail. -/
theorem answers_freezeTail (ha : f.action = .freezeTail) {l : Layout} (hl : (s.node n).jr.layout = some l) :
    if l.tail = 0 then Answers s i n (fired s i n f) (.ended .invalidParameter)
    else if (s.node n).jr.tail.held = true then
      Answers s i n ((fired s i n f).modJr n fun j => { j with tailMissed := bump 255 j.tailMissed }) (.ended .incorrectState)
    else
      let u := freezeTail (fired s i n f) n .watch
      Answers s i n u (.ended .complete) ∧ (u.node n).jr.tail.held = true ∧ (u.node n).jr.tail.reason = .watch ∧
        (u.node n).jr.tail.count = min l.tail (min (s.node n).jr.bodyCount l.body) ∧ (u.node n).jr.tailMissed = 0 ∧
        Flagged u n .tailFrozen := by
  have hj : ((fired s i n f).node n).jr = (s.node n).jr := fired_jr ..
  have ho : freezeOutcome ((fired s i n f).node n).jr =
      if l.tail = 0 then .skipped else if (s.node n).jr.tail.held = true then .missed else .frozen := by
    simp only [freezeOutcome, hj, hl]
  refine ite_intro (fun h1 => ?_) fun h1 => ite_intro (fun h2 => ?_) fun h2 => ?_
  · rw [if_pos h1] at ho; exact answers_of_issue hf hh ha (issueAction_freezeTail_skipped i ho)
  · rw [if_neg h1, if_pos h2] at ho; exact answers_of_issue hf hh ha (issueAction_freezeTail_missed i ho)
  · rw [if_neg h1, if_neg h2] at ho
    refine ⟨answers_of_issue hf hh ha (issueAction_freezeTail_frozen i ho), ?_⟩
    obtain ⟨hheld, hreason, hcount, hrest⟩ := freezeCopy_tail (fired s i n f) n l .watch
    rw [fired_jr] at hcount
    rw [freezeTail_frozen .watch (by rw [hj]; exact hl) ho]
    exact ⟨hheld, hreason, hcount, hrest⟩

end

/-! ### The end of an order that an ORDER action issued (R118) -/

/-- R8, R118: the completion of an order that came from a watch entry. -/
theorem completeOrder_watch {s : State} {n : NodeId} {o : PowerOrder} {i : WatchId} (h : (s.node n).sq.order = some o)
    (hi : o.src = .watch i) (r : Result) (detail : Word) :
    completeOrder s n r detail = nodeEvent
      (watchOrderResult (s.modNode n fun d => { d with sq := d.sq.closed o r detail s.msclk }) i n r) n .autoOrder := by
  unfold completeOrder; rw [h]
  simp only [recordCompletion, deliver, hi, State.modSq, State.modNode, vmod_vmod, Sequencer.closed]

/-- R118: a result replaces a recorded ACCEPTED and no other result. -/
theorem watchOrderResult_eq (s : State) (i : WatchId) (n : NodeId) (r : Result) :
    watchOrderResult s i n r = s.modWatch i fun e => { e with pairs := vmod e.pairs n fun p =>
      { p with result := if p.result = .accepted then .ended r else p.result } } := by
  have hp (p : Pair) : (if p.result = .accepted then { p with result := .ended r } else p) =
      { p with result := if p.result = .accepted then .ended r else p.result } := by
    split <;> rfl
  simp only [watchOrderResult, State.modPair_eq, hp]

/-- R5, R27: the NMI timer of a BOOTING or RUNNING node has run out. -/
theorem exec_nmiTimerExpiry {s : State} {n : NodeId} (hi : s.init = false)
    (hp : (s.node n).sq.pst = .booting ∨ (s.node n).sq.pst = .running) (ht : ranOut (s.node n).sq.nmiT = true) :
    exec (.nmiTimerExpiry n) s = .next (finish s (nmiExpires s n)) := by
  have hact : actsIn (s.node n).sq [.booting, .running] (s.node n).sq.nmiT = (s.node n).sq.nmiT := by
    rcases hp with hp | hp <;> simp [actsIn, hp]
  show Host.Outcome.next (blockEvent s (whenRanOut (actsIn _ _ _) _)) = _
  rw [blockEvent_run hi, hact, whenRanOut_true _ ht]

/-- R118: an NMI that an ORDER action issued has ended. -/
def watchNmiEnded (s : State) (i : WatchId) (n : NodeId) (o : PowerOrder) : State :=
  nodeEvent
    ((s.modWatch i fun e => { e with pairs := vmod e.pairs n fun p =>
      { p with result := if p.result = .accepted then .ended .complete else p.result } }).modNode n fun d =>
        { d with sq := { (d.sq.closed o .complete 0 s.msclk) with nmiT := none } }) n .autoOrder

theorem nmiExpires_watch {s : State} {i : WatchId} {n : NodeId} {o : PowerOrder} (hord : (s.node n).sq.order = some o)
    (hsrc : o.src = .watch i) : nmiExpires s n = watchNmiEnded s i n o := by
  unfold nmiExpires
  rw [State.modSq_eq, completeOrder_watch (by simpa using hord) hsrc, watchOrderResult_eq, State.modNode_modNode]
  rfl

/-- It leaves every port, and every profile. -/
theorem watchNmiEnded_node (s : State) (i : WatchId) (n : NodeId) (o : PowerOrder) (m : NodeId) :
    ((watchNmiEnded s i n o).node m).port = (s.node m).port ∧
      ((watchNmiEnded s i n o).node m).sq.profile = (s.node m).sq.profile := by
  unfold watchNmiEnded
  rw [nodeEvent_modNode _ _ _ fun _ _ => rfl, nodeEvent_modNode_node]
  split
  · next hm => subst hm; exact ⟨rfl, rfl⟩
  · exact ⟨rfl, rfl⟩

/-- R118: the NMI timer's expiry ends the order, on an ample shelf. -/
theorem does_nmiTimerExpiry_watch {s : State} {i : WatchId} {n : NodeId} {o : PowerOrder} (ho : Operating s) (hample : Ample s)
    (hp : (s.node n).sq.pst = .booting ∨ (s.node n).sq.pst = .running) (ht : ranOut (s.node n).sq.nmiT = true)
    (hord : (s.node n).sq.order = some o) (hsrc : o.src = .watch i) :
    Does (.nmiTimerExpiry n) s (watchNmiEnded s i n o) [] := by
  have he := exec_nmiTimerExpiry ho.1 hp ht
  rw [nmiExpires_watch hord hsrc] at he
  have hnode := watchNmiEnded_node s i n o
  exact does_of_effect he (becomes_refl _) (writes_nil rfl)
    (.inr (calm_of_ample hample rfl rfl rfl rfl rfl (.inr id) fun m => (hnode m).2))
    (waitsSettled_congr ho.2 (fun m => (hnode m).1) rfl)

/-- R112: the holdoff timer of a pair has run out. -/
theorem does_holdoffTimerExpiry {s : State} {i : WatchId} {n : NodeId} (ho : Operating s)
    (ht : ranOut (s.pair i n).holdoffT = true) :
    Does (.holdoffTimerExpiry i n) s
      (s.modWatch i fun e => { e with pairs := vmod e.pairs n fun p => { p with holdoffT := none } }) [] := by
  have he : exec (.holdoffTimerExpiry i n) s = .next (finish s (holdoffExpires s i n)) := by
    show Host.Outcome.next (blockEvent s (whenRanOut _ _)) = _
    rw [blockEvent_run ho.1, whenRanOut_true _ ht]
  exact does_of_effect he (becomes_refl _) (writes_nil rfl) (.inl fun _ => ⟨rfl, .inr rfl⟩)
    (waitsSettled_congr ho.2 (fun _ => rfl) rfl)

/-! ### A received byte (R73, R111) -/

/-- The samples of a data byte in 8N1 whose stop bit is high. -/
def dataSamples (b : Byte) : Samples := { byte := b, parityOk := true, parityHigh := false, stops := [true] }

/-- R72: they are no break. -/
theorem frameSampled_8N1 {s : State} {n : NodeId}
    (h : (s.node n).ch.sampling = { dataBits := 8, parity := .none, stopBits := 1 }) (b : Byte) :
    frameSampled s n b false true true = deliverByte s n (dataSamples b) := by
  have hm : sampleFrame { dataBits := 8, parity := .none, stopBits := 1 } b false true true = dataSamples b := rfl
  have hb : (dataSamples b).isBreak = false := by simp [dataSamples, Samples.isBreak]
  simp only [frameSampled, h, hm, hb, Bool.false_eq_true, if_false]

/-- R109: the history after a byte. -/
theorem appendHistory_eq (h : List Byte) (b : Byte) : appendHistory h b = (h ++ [b]).drop (h.length - 23) := by
  have : h.length + 1 - 24 = h.length - 23 := by omega
  rw [appendHistory, this]

/-- R111: the entries that match the history with the byte, in ascending index. -/
theorem matchByte_eq (s : State) (n : NodeId) (b : Byte) : matchByte s n b =
    ((List.finRange 32).filter fun i => entryMatches (s.watchEntry i) n (appendHistory (s.node n).hist b)).foldl (takeMatch n)
      (s.modNode n fun d => { d with hist := appendHistory d.hist b }) := by
  simp only [matchByte, allIndexes, State.modNode_watchEntry, State.modNode_node_self]

/-- R72, R73, R111: the event of a data byte without an error, its matching entries taken one after another. -/
theorem exec_rxDataByte_8N1 {s : State} {n : NodeId} (hi : s.init = false)
    (hfr : (s.node n).ch.framer = .frame { dataBits := 8, parity := .none, stopBits := 1 }) (b : Byte) :
    let hist := ((s.node n).hist ++ [b]).drop ((s.node n).hist.length - 23)
    let matching := (List.finRange 32).filter fun i => entryMatches (s.watchEntry i) n hist
    let counted := s.modNode n fun d =>
      { d with ch := { d.ch with framer := .idle, rxd := true, rxBytes := d.ch.rxBytes + 1 }, hist := hist }
    exec (.rxDataByte n b false true true) s =
      .next (finish s ((byteSignOfLife (assembleByte (matching.foldl (takeMatch n) counted) n b false) n).modNode n fun d =>
        { d with ch := { d.ch with idleT := startUnlessZero d.ch.settings.idleFlushMs } })) := by
  intro hist matching counted
  have hs (high : Bool) : ((rxdLevel s n high).node n).ch.sampling = { dataBits := 8, parity := .none, stopBits := 1 } := by
    simp [rxdLevel, Channel.sampling, hfr]
  have hend : (sampleFrame (s.node n).ch.sampling b false true true).endsHigh = true := by
    simp only [Channel.sampling, hfr]; rfl
  have hcount : ((rxdLevel s n true).modCh n (·.countByte (dataSamples b))).modNode n
      (fun d => { d with hist := appendHistory d.hist b }) = counted := by
    simp only [rxdLevel, State.modCh_eq, State.modNode_modNode]
    exact modNode_congr (by rw [appendHistory_eq]; rfl)
  have hmatch : matchByte ((rxdLevel s n true).modCh n (·.countByte (dataSamples b))) n b =
      matching.foldl (takeMatch n) counted := by
    rw [matchByte_eq, hcount]
    simp [rxdLevel, appendHistory_eq, matching, hist, State.watchEntry]
  refine congrArg Host.Outcome.next ?_
  rw [pinEvent_run hi, hend, frameSampled_8N1 (hs _)]
  exact congrArg (fun t => finish s ((byteSignOfLife (assembleByte t n b false) n).modCh n (·.restartIdle))) hmatch

/-- Settles O35, clause by clause; the firings action by action. -/
theorem pairsFireAndHoldOff : Obligations.PairsFireAndHoldOff := by
  refine ⟨fun s i n ho ht => does_holdoffTimerExpiry ho ht,
    fun s i n f hf => ⟨fun hh => takeMatch_heldOff hf hh, fun ha hh => (answers_note hf hh ha).trans (fired_modPair ..)⟩,
    fun s i n f p c flags k l o hf hh => ?_,
    fun s i n o ho hample hp ht hord hsrc => does_nmiTimerExpiry_watch ho hample hp ht hord hsrc,
    fun s n b ho hfr => ⟨(List.pairwise_lt_finRange 32).filter _, exec_rxDataByte_8N1 ho.1 hfr b⟩⟩
  refine ⟨fun ha => ⟨fun hl => ?_, fun hl => answers_mark hf hh ha hl⟩, fun ha => answers_inject hf hh ha,
    fun ha hc hfl => answers_power hf hh ha hc hfl, fun ha => answers_of_issue hf hh ha rfl,
    fun ha => ⟨fun hp => ?_, fun hp => ?_⟩, fun ha => ⟨fun hl => ?_, fun hl => answers_freezeTail hf hh ha hl⟩⟩
  · exact answers_of_issue hf hh ha (issueAction_mark_none i (by simpa using hl))
  · exact answers_of_issue hf hh ha (issueAction_bootDone_refused i (by simpa using hp))
  · obtain ⟨hrun, hboot, hflag⟩ := bootDone_runs (s := fired s i n f) (n := n) (by simpa using hp)
    exact ⟨answers_bootDone hf hh ha hp, hrun, hboot, hflag,
      fun ho => bootDone_order (s := fired s i n f) (by simpa using ho)⟩
  · exact answers_of_issue hf hh ha (issueAction_freezeTail_skipped i (by simp [freezeOutcome, hl]))

end Sys2Proof.WatchTable

/-! PROOFS. Media frames and transfers: what every operation leaves of the frames' owners and of the ports, the end of an
event, every step. -/

namespace Sys2Proof.MediaFrames
open Sys2Proof.Machine Sys2Proof.LivenessAndCapture

/-! ### What an operation of a block leaves of frames and ports

Frames take a new owner in one operation, the allocation, and a port takes a command in one, its acceptance. Every other
operation keeps what `Keeps` names; one lemma per operation, in the order of the model. -/

/-- From the first state to the second no two frames come to have one owner, no hold begins, RST is not set and no command
begins. -/
structure Keeps (s t : State) : Prop where
  tags : FramesUnique s → FramesUnique t
  hold : t.hold = true → s.hold = true
  rst : ∀ n, (t.node n).port.rst = true → (s.node n).port.rst = true
  cmd : ∀ n, (s.node n).port.cmd = none → (t.node n).port.cmd = none

/-- No frame with a new owner. -/
theorem framesUnique_of_owners {s t : State} (ho : ∀ f k, (t.frame f).own = some k → (s.frame f).own = some k)
    (h : FramesUnique s) : FramesUnique t :=
  fun f g k hf hg => h f g k (ho f k hf) (ho g k hg)

section
variable {s t u : State} {n : NodeId}

theorem Keeps.refl (s : State) : Keeps s s := ⟨id, id, fun _ => id, fun _ => id⟩

theorem Keeps.trans (h : Keeps s t) (k : Keeps t u) : Keeps s u :=
  ⟨k.tags ∘ h.tags, h.hold ∘ k.hold, fun n => h.rst n ∘ k.rst n, fun n => k.cmd n ∘ h.cmd n⟩

/-- An update of parts other than the frames, the nodes and the hold. -/
theorem Keeps.same (h : Keeps s t) (hf : u.frames = t.frames := by rfl) (hn : u.nodes = t.nodes := by rfl)
    (hh : u.hold = t.hold := by rfl) : Keeps s u := by
  refine h.trans ⟨framesUnique_of_owners ?_, ?_, ?_, ?_⟩
  · simp only [State.frame, hf, imp_self, implies_true]
  · simp only [hh, imp_self]
  all_goals simp only [State.node, hn, imp_self, implies_true]

/-- An update of one node, by what it makes of that node's port. -/
theorem Keeps.onNode (h : Keeps s t) {g : Node → Node}
    (hc : (t.node n).port.cmd = none → (g (t.node n)).port.cmd = none)
    (hr : (g (t.node n)).port.rst = true → (t.node n).port.rst = true) : Keeps s (t.modNode n g) := by
  refine h.trans ⟨id, id, fun m => ?_, fun m => ?_⟩
  all_goals
    by_cases hm : m = n
    · subst hm; simpa
    · simp [hm]

theorem Keeps.modPort (h : Keeps s t) {g : Port → Port}
    (hc : (t.node n).port.cmd = none → (g (t.node n).port).cmd = none)
    (hr : (g (t.node n).port).rst = true → (t.node n).port.rst = true) : Keeps s (t.modPort n g) := h.onNode hc hr

/-- An update of a port that leaves its command and RST. -/
theorem Keeps.modFlags (h : Keeps s t) {g : Port → Port}
    (hg : ∀ p, (g p).cmd = p.cmd ∧ (g p).rst = p.rst := by exact fun _ => ⟨rfl, rfl⟩) : Keeps s (t.modPort n g) := by
  obtain ⟨hc, hr⟩ := hg (t.node n).port
  exact h.modPort (by rw [hc]; exact id) (by rw [hr]; exact id)

/-- An update of one node that leaves its port. -/
theorem Keeps.modNode (h : Keeps s t) {g : Node → Node} (hg : ∀ d, (g d).port = d.port := by exact fun _ => rfl) :
    Keeps s (t.modNode n g) :=
  h.onNode (by rw [hg]; exact id) (by rw [hg]; exact id)

theorem Keeps.modFrame (h : Keeps s t) {f : FrameId} {g : Frame → Frame}
    (hg : ∀ x k, (g x).own = some k → x.own = some k := by exact fun _ _ => id) : Keeps s (t.modFrame f g) := by
  refine h.trans ⟨framesUnique_of_owners fun x k => ?_, id, fun _ => id, fun _ => id⟩
  rw [State.modFrame_frame]; split
  · exact hg _ k
  · exact id

theorem Keeps.ite {p : Prop} [Decidable p] (ht : Keeps s t) (hu : Keeps s u) : Keeps s (if p then t else u) := by
  split <;> assumption

/-- Steps of which each keeps frames and ports keep them together. -/
theorem Keeps.foldl {α : Type} {f : State → α → State} (hf : ∀ t x, Keeps s t → Keeps s (f t x)) (xs : List α)
    (h : Keeps s t) : Keeps s (xs.foldl f t) := by
  induction xs generalizing t with
  | nil => exact h
  | cons x xs ih => exact ih (hf t x h)

theorem Keeps.modSq (h : Keeps s t) {g : Sequencer → Sequencer} : Keeps s (t.modSq n g) := h.modNode
theorem Keeps.modLv (h : Keeps s t) {g : Liveness → Liveness} : Keeps s (t.modLv n g) := h.modNode
theorem Keeps.modCh (h : Keeps s t) {g : Channel → Channel} : Keeps s (t.modCh n g) := h.modNode
theorem Keeps.modJr (h : Keeps s t) {g : Journal → Journal} : Keeps s (t.modJr n g) := h.modNode
theorem Keeps.modAtt (h : Keeps s t) {g : Attachment → Attachment} : Keeps s (t.modAtt n g) := h.modNode
theorem Keeps.modPins (h : Keeps s t) {g : Pins → Pins} : Keeps s (t.modPins n g) := h.modNode
theorem Keeps.modShelf (h : Keeps s t) {g : Shelf → Shelf} : Keeps s (t.modShelf g) := h.same
theorem Keeps.modSlot (h : Keeps s t) {k : SlotId} {g : SlotCopy → SlotCopy} : Keeps s (t.modSlot k g) := h.same
theorem Keeps.modEntry (h : Keeps s t) {e : EntryId} {g : Entry → Entry} : Keeps s (t.modEntry e g) := h.same
theorem Keeps.modWatch (h : Keeps s t) {i : WatchId} {g : WatchEntry → WatchEntry} : Keeps s (t.modWatch i g) := h.same
theorem Keeps.modPair (h : Keeps s t) {i : WatchId} {g : Pair → Pair} : Keeps s (t.modPair i n g) := h.same
theorem Keeps.store (h : Keeps s t) {a : Nat} {bs : List Byte} : Keeps s (t.store a bs) := h.same
theorem Keeps.waitList (h : Keeps s t) {l : List Request} : Keeps s { t with waitList := l } := h.same
theorem Keeps.watch (h : Keeps s t) {w : Vector WatchEntry 32} : Keeps s { t with watch := w } := h.same
theorem Keeps.init (h : Keeps s t) {b : Bool} : Keeps s { t with init := b } := h.same
theorem Keeps.waits (h : Keeps s t) {l : List Waiter} : Keeps s { t with waits := l } := h.same

/-! Attention bits, event flags, slots. -/

theorem Keeps.setAttn (h : Keeps s t) {b : AttnBit} : Keeps s (setAttn t b) := h.same
theorem Keeps.nodeEvent (h : Keeps s t) {e : NodeEvent} : Keeps s (nodeEvent t n e) := h.modNode.setAttn
theorem Keeps.shelfEvent (h : Keeps s t) {e : ShelfEvent} : Keeps s (shelfEvent t e) := h.same
theorem Keeps.refuseWrite (h : Keeps s t) : Keeps s (refuseWrite t) := h.same
theorem Keeps.slotDone (h : Keeps s t) {k : SlotId} {r : Result} {detail : Word} : Keeps s (slotDone t k r detail) := h.same

theorem Keeps.deliver (h : Keeps s t) {src : OrderSrc} {r : Result} {detail : Word} :
    Keeps s (deliver t n src r detail) := by
  cases src with
  | slot k => exact h.slotDone
  | watch i => exact (h.modPair (n := n)).nodeEvent
  | hang => exact h.modLv.nodeEvent
  | shed => exact h.modShelf.nodeEvent

/-! The Console Channel. -/

theorem Keeps.itemResult (h : Keeps s t) {i : TxItem} {r : Result} : Keeps s (itemResult t i r) := by
  unfold Machine.itemResult; split
  · exact h.slotDone
  · exact h

theorem Keeps.headSent (h : Keeps s t) {after : TxPhase} : Keeps s (headSent t n after) := by
  unfold Machine.headSent; split
  · exact h
  · exact h.modCh.itemResult

theorem Keeps.discardTx (h : Keeps s t) : Keeps s (discardTx t n) :=
  Keeps.foldl (fun _ _ k => k.itemResult) _ h.modCh

theorem Keeps.injectAction (h : Keeps s t) {i : WatchId} {p : TxPayload} : Keeps s (injectAction t n i p) :=
  Keeps.ite h.modCh h

/-! The Journal Writer. -/

theorem Keeps.writeBody (h : Keeps s t) {l : Layout} {record : Word → List Byte} : Keeps s (writeBody t n l record) := by
  unfold Machine.writeBody; exact h.store.modJr

theorem Keeps.writePinned (h : Keeps s t) {l : Layout} {record : Word → List Byte} :
    Keeps s (writePinned t n l record) := by
  unfold Machine.writePinned; exact h.store.modJr

theorem Keeps.placeLine (h : Keeps s t) {line : Line} (hp : placeLine t n line = some u) : Keeps s u := by
  unfold Machine.placeLine at hp
  dsimp only at hp
  split at hp
  · cases hp; exact h
  · split at hp
    · cases hp; exact h.writePinned
    · split at hp <;> cases hp
      exact h.writeBody

theorem Keeps.handOver (h : Keeps s t) {line : Line} {split : Bool} : Keeps s (handOver t n line split) := by
  unfold Machine.handOver
  cases hp : Machine.placeLine t n line with
  | some u => exact (h.placeLine hp).modJr
  | none => exact Keeps.ite h.modJr h.modJr

theorem Keeps.storeByte (h : Keeps s t) {b : Byte} : Keeps s (storeByte t n b) := Keeps.ite h.modJr h.modJr.handOver

theorem Keeps.releaseCr (h : Keeps s t) : Keeps s (releaseCr t n) := Keeps.ite h.modJr.storeByte h

theorem Keeps.dropByte (h : Keeps s t) : Keeps s (dropByte t n) := h.modJr.nodeEvent

theorem Keeps.markFraming (h : Keeps s t) {error : Bool} : Keeps s (markFraming t n error) := h.modJr

theorem Keeps.takeLf (h : Keeps s t) {error : Bool} : Keeps s (takeLf t n error) :=
  Keeps.ite h.modJr.markFraming.modJr h.modJr.markFraming.handOver

theorem Keeps.takeOther (h : Keeps s t) {b : Byte} {error : Bool} : Keeps s (takeOther t n b error) :=
  Keeps.ite h.releaseCr.dropByte (Keeps.ite h.releaseCr.markFraming.modJr h.releaseCr.markFraming.storeByte)

theorem Keeps.assembleByte (h : Keeps s t) {b : Byte} {error : Bool} : Keeps s (assembleByte t n b error) :=
  Keeps.ite h.dropByte (Keeps.ite h.takeLf h.takeOther)

theorem Keeps.endRequest (h : Keeps s t) {r : EndRequest} : Keeps s (endRequest t n r) := by
  have hcr : Keeps s (if (t.node n).jr.asm.blocked = .taking then Machine.releaseCr t n else t) := Keeps.ite h.releaseCr h
  unfold Machine.endRequest; dsimp only
  split
  · exact hcr
  · exact hcr.modJr
  · exact Keeps.ite hcr hcr.handOver

theorem Keeps.marker (h : Keeps s t) {kind : MarkerKind} {arg : Nat} : Keeps s (marker t n kind arg) := by
  unfold Machine.marker; dsimp only
  split
  · exact h
  · exact Keeps.ite h.writeBody h.modJr.nodeEvent

theorem Keeps.bootMarker (h : Keeps s t) {kind : MarkerKind} : Keeps s (bootMarker t n kind) := h.marker

theorem Keeps.newBoot (h : Keeps s t) : Keeps s (newBoot t n) := h.modJr.bootMarker

theorem Keeps.writeBlocked (h : Keeps s t) : Keeps s (writeBlocked t n) := by
  unfold Machine.writeBlocked; split
  · exact h
  · exact h.handOver
  · exact h.handOver

theorem Keeps.roomWrite (h : Keeps s t) : Keeps s (roomWrite t n) := by
  unfold Machine.roomWrite; dsimp only
  split
  · exact Keeps.ite h.writeBody.modJr.writeBlocked h
  · exact h

theorem Keeps.fenceEvent (h : Keeps s t) : Keeps s (fenceEvent t n) := h.modJr.roomWrite

theorem Keeps.freezeTail (h : Keeps s t) {reason : TailReason} : Keeps s (freezeTail t n reason) := by
  unfold Machine.freezeTail; dsimp only
  split
  · exact h.store.modJr.marker.nodeEvent
  · exact h.modJr
  · exact h

/-! The Frame Controller. -/

theorem Keeps.dropWaiter (h : Keeps s t) {w : Waiter} : Keeps s (dropWaiter t w) := h.same
theorem Keeps.dropClean (h : Keeps s t) {f : FrameId} : Keeps s (dropClean t f) := h.same
theorem Keeps.joinClean (h : Keeps s t) {f : FrameId} : Keeps s (joinClean t f) := h.same
theorem Keeps.dropDirty (h : Keeps s t) {f : FrameId} : Keeps s (dropDirty t n f) := h.modAtt

theorem Keeps.freeFrame (h : Keeps s t) {f : FrameId} : Keeps s (freeFrame t f) := by
  have hfree (x : Frame) (k : NodeId × Nat) : (none : Option (NodeId × Nat)) = some k → x.own = some k := nofun
  unfold Machine.freeFrame; dsimp only
  split
  · exact h.dropDirty.dropClean.waitList.modFrame hfree
  · exact h.dropClean.waitList.modFrame hfree

theorem Keeps.makeClean (h : Keeps s t) {f : FrameId} : Keeps s (makeClean t f) := h.modFrame.joinClean

theorem Keeps.postEntry (h : Keeps s t) {e : EntryId} {r : Request} : Keeps s (postEntry t e r) := by
  unfold Machine.postEntry; dsimp only
  split
  · exact h.modEntry.setAttn
  · exact h.modEntry.dropDirty.modFrame.setAttn

theorem Keeps.requestTransfer (h : Keeps s t) {k : TransferKind} {f : FrameId} : Keeps s (requestTransfer t k f) := by
  unfold Machine.requestTransfer; dsimp only
  split
  · exact h.postEntry
  · exact h.waitList

theorem Keeps.serveWaitList (h : Keeps s t) : Keeps s (serveWaitList t) := by
  unfold Machine.serveWaitList; split
  · exact h.waitList.postEntry
  · exact h

theorem Keeps.freeEntryServe (h : Keeps s t) {e : EntryId} : Keeps s (freeEntryServe t e) := h.modEntry.serveWaitList

theorem Keeps.requestFlush (h : Keeps s t) {f : FrameId} : Keeps s (requestFlush t f) := Keeps.ite h.requestTransfer h

theorem Keeps.flushOldest (h : Keeps s t) : Keeps s (flushOldest t n) := by
  unfold Machine.flushOldest; split
  · exact h.requestFlush
  · exact h

theorem Keeps.flushAll (h : Keeps s t) : Keeps s (flushAll t n) := Keeps.foldl (fun _ _ k => k.requestFlush) _ h

theorem Keeps.joinDirty (h : Keeps s t) {f : FrameId} : Keeps s (joinDirty t n f) :=
  Keeps.ite h.dropClean.modFrame.modAtt.flushOldest h.dropClean.modFrame.modAtt

/-- R146: the one operation that gives a frame an owner, which no frame has. -/
theorem Keeps.takeFrame (h : Keeps s t) {f : FrameId} {tag : Nat} {st : FrameState} (hno : t.owned n tag = none) :
    Keeps s (takeFrame t f n tag st) := by
  have hfree (g : FrameId) : (t.frame g).own ≠ some (n, tag) := by
    simpa [allFrames] using List.find?_eq_none.mp hno g
  refine h.trans ⟨fun hu => ?_, id, fun _ => id, fun _ => id⟩
  have hown (x : FrameId) : ((Machine.takeFrame t f n tag st).frame x).own =
      if x = f then some (n, tag) else (t.frame x).own := by
    unfold Machine.takeFrame
    rw [State.modFrame_frame]; split <;> rfl
  intro x y k hx hy
  rw [hown] at hx hy
  by_cases hxf : x = f <;> by_cases hyf : y = f
  · rw [hxf, hyf]
  · rw [if_pos hxf] at hx; rw [if_neg hyf, ← hx] at hy; exact absurd hy (hfree y)
  · rw [if_pos hyf] at hy; rw [if_neg hxf, ← hy] at hx; exact absurd hx (hfree x)
  · rw [if_neg hxf] at hx; rw [if_neg hyf] at hy; exact hu x y k hx hy

theorem Keeps.allocate (h : Keeps s t) {tag : Nat} {assemble : Bool} (ha : allocate t n tag assemble = some u) :
    Keeps s u := by
  unfold Machine.allocate at ha
  split at ha
  · cases ha; exact h
  · next hno =>
    split at ha
    · cases ha
    · split at ha <;> cases ha
      · exact h.takeFrame hno
      · exact (h.takeFrame hno).requestTransfer

theorem Keeps.windowPass {c : PortCmd} {ts : List Nat} (h : Keeps s t) : Keeps s (windowPass t n c ts) := by
  induction ts generalizing t with
  | nil => exact h
  | cons tag ts ih =>
    unfold Machine.windowPass
    cases ha : allocateFor t n c tag with
    | none => exact h
    | some u => exact ih (h.allocate ha)

theorem Keeps.waiterAllocate (h : Keeps s t) {w : Waiter} (ha : waiterAllocate t w = some u) : Keeps s u := by
  cases w with
  | prefetch n => exact h.allocate ha
  | command n =>
    unfold Machine.waiterAllocate at ha
    dsimp only at ha
    split at ha
    · exact h.allocate ha
    · cases ha; exact h

theorem Keeps.tryWaiter (h : Keeps s t) {w : Waiter} : Keeps s (tryWaiter t w) := by
  unfold Machine.tryWaiter
  cases ha : Machine.waiterAllocate t w with
  | none => exact h.flushOldest
  | some u => exact (h.waiterAllocate ha).dropWaiter

theorem Keeps.retryWaits (h : Keeps s t) : Keeps s (retryWaits t) := Keeps.foldl (fun _ _ k => k.tryWaiter) _ h

theorem Keeps.allocateOrWait (h : Keeps s t) {w : Waiter} : Keeps s (allocateOrWait t w) := by
  unfold Machine.allocateOrWait
  cases ha : Machine.waiterAllocate t w with
  | none => exact h.waits.flushOldest
  | some u => exact h.waiterAllocate ha

theorem Keeps.wordStored (h : Keeps s t) {c : PortCmd} {f : FrameId} : Keeps s (wordStored t n c f) := by
  unfold Machine.wordStored; split
  · exact h.joinDirty
  · exact Keeps.ite h.joinDirty h
  · exact h

theorem Keeps.freeAssembling (h : Keeps s t) : Keeps s (freeAssembling t n) :=
  Keeps.foldl (fun _ _ k => Keeps.ite k.freeFrame k) _ h

theorem Keeps.endCommand (h : Keeps s t) {e : EndCode} : Keeps s (endCommand t n e) := by
  unfold Machine.endCommand; split
  · exact h
  · exact (h.modPort (fun _ => rfl) id).freeAssembling.dropWaiter.retryWaits

theorem Keeps.resetCommand (h : Keeps s t) : Keeps s (resetCommand t n) := by
  unfold Machine.resetCommand; split
  · exact h
  · exact (h.modPort (fun _ => rfl) id).freeAssembling.dropWaiter.retryWaits

theorem Keeps.flushCheck (h : Keeps s t) : Keeps s (flushCheck t n) := by
  unfold Machine.flushCheck; split
  · exact Keeps.ite h.endCommand h
  · exact h

theorem Keeps.settleWait (h : Keeps s t) : Keeps s (settleWait t n) :=
  Keeps.ite (Keeps.ite h.modFlags h) (Keeps.ite h h.modFlags)

theorem Keeps.settleWaits (h : Keeps s t) : Keeps s (settleWaits t) := Keeps.foldl (fun _ _ => Keeps.settleWait) _ h

theorem Keeps.beginPrefetch (h : Keeps s t) : Keeps s (beginPrefetch t n) := by
  unfold Machine.beginPrefetch; dsimp only
  split
  · exact h
  · split
    · split <;> exact h.modSq
    · exact h.modSq.allocateOrWait

theorem Keeps.dropPrefetch (h : Keeps s t) : Keeps s (dropPrefetch t n) := h.modSq.dropWaiter

/-! The Media Port, but for the acceptance of a command and the setting of RST. -/

theorem Keeps.touchFrame (h : Keeps s t) {c : PortCmd} : Keeps s (touchFrame t n c) := by
  unfold Machine.touchFrame; split
  · exact Keeps.ite (h.joinClean.modPort (fun hc => by rw [hc]; rfl) id) h
  · exact h

theorem Keeps.advance (h : Keeps s t) : Keeps s (advance t n) := by
  unfold Machine.advance; split
  · exact h
  · next c hc =>
    have hnext : Keeps s (t.modPort n fun p => { p with cmd := some { c with counter := c.counter + 4 } }) :=
      h.modPort (by simp [hc]) id
    exact Keeps.ite hnext.endCommand (Keeps.ite (hnext.modPort (by simp) id).retryWaits.allocateOrWait hnext)

theorem Keeps.readData (h : Keeps s t) : Keeps s (readData t n) := by
  unfold Machine.readData; dsimp only
  split
  · exact Keeps.ite h.touchFrame.modFlags.advance h.modFlags
  · exact h.modFlags

theorem Keeps.writeData (h : Keeps s t) {w : Word} : Keeps s (writeData t n w) := by
  unfold Machine.writeData; split
  · split
    · exact Keeps.ite h.store.wordStored.advance h
    · exact h
  · exact h

theorem Keeps.readStat (h : Keeps s t) : Keeps s (readStat t n) := by
  unfold Machine.readStat; exact h.modFlags

theorem Keeps.portPowerReset (h : Keeps s t) : Keeps s (portPowerReset t n) :=
  h.resetCommand.modPort id nofun

/-! The Power Sequencer. -/

theorem Keeps.changeState (h : Keeps s t) {st : PState} : Keeps s (changeState t n st) := by
  unfold Machine.changeState; dsimp only
  refine Keeps.ite h (Keeps.ite ?_ ?_)
  · exact Keeps.ite (h.modNode.modShelf).modSq h.modNode.modShelf
  · exact (Keeps.ite (h.modNode.modShelf).modSq h.modNode.modShelf).dropWaiter

theorem Keeps.dropPower (h : Keeps s t) : Keeps s (dropPower t n) := by
  unfold Machine.dropPower; dsimp only
  split
  · exact h.portPowerReset.discardTx.bootMarker
  · exact h.portPowerReset.discardTx.bootMarker
  · exact h.portPowerReset.discardTx

theorem Keeps.leavePower (h : Keeps s t) {st : PState} : Keeps s (leavePower t n st) :=
  Keeps.ite h.changeState.dropPower h.changeState

theorem Keeps.setOrder (h : Keeps s t) {c : PowerCode} {src : OrderSrc} {flags : Byte} :
    Keeps s (setOrder t n c src flags) := h.modSq

theorem Keeps.recordCompletion (h : Keeps s t) {c : PowerCode} {src : OrderSrc} {r : Result} {detail : Word} :
    Keeps s (recordCompletion t n c src r detail) := h.modSq.deliver

theorem Keeps.completeOrder (h : Keeps s t) {r : Result} {detail : Word} : Keeps s (completeOrder t n r detail) := by
  unfold Machine.completeOrder; split
  · exact h
  · exact h.modSq.recordCompletion

theorem Keeps.completePowerUp (h : Keeps s t) {detail : Word} : Keeps s (completePowerUp t n detail) :=
  Keeps.ite h.completeOrder h

theorem Keeps.addDetail (h : Keeps s t) {detail : Word} : Keeps s (addDetail t n detail) := h.modSq

theorem Keeps.rearmBoot (h : Keeps s t) : Keeps s (rearmBoot t n) := by
  unfold Machine.rearmBoot; exact h.same

theorem Keeps.enterBooting (h : Keeps s t) : Keeps s (enterBooting t n) := by
  unfold Machine.enterBooting; dsimp only
  refine Keeps.ite (Keeps.completePowerUp (Keeps.changeState ?_)) ?_
  all_goals
    exact Keeps.ite h.changeState.modSq.newBoot.rearmBoot.modLv.modSq.completeOrder
      h.changeState.modSq.newBoot.rearmBoot.modLv.modSq

theorem Keeps.gateCheck (h : Keeps s t) : Keeps s (gateCheck t n) :=
  Keeps.ite (Keeps.ite h.addDetail h).enterBooting h

theorem Keeps.enterGated (h : Keeps s t) : Keeps s (enterGated t n) := h.changeState.modSq

theorem Keeps.enterInrush (h : Keeps s t) : Keeps s (enterInrush t n) := by
  unfold Machine.enterInrush; dsimp only
  split
  · exact Keeps.ite h.changeState.modSq.bootMarker.beginPrefetch h.changeState.modSq.bootMarker
  · exact h.changeState.modSq.bootMarker

theorem Keeps.bootDone (h : Keeps s t) : Keeps s (bootDone t n) := h.changeState.nodeEvent.completePowerUp

theorem Keeps.enterFault (h : Keeps s t) {r : FaultReason} : Keeps s (enterFault t n r) :=
  h.leavePower.modSq.marker.freezeTail.completeOrder.nodeEvent

theorem Keeps.nodeOff (h : Keeps s t) : Keeps s (nodeOff t n) :=
  Keeps.ite h.leavePower.completeOrder h.leavePower.completeOrder

theorem Keeps.removeNode (h : Keeps s t) : Keeps s (removeNode t n) :=
  Keeps.ite h h.leavePower.portPowerReset.completeOrder.nodeEvent

theorem Keeps.insertNode (h : Keeps s t) : Keeps s (insertNode t n) := Keeps.ite h.changeState.nodeEvent h

theorem Keeps.supersede (h : Keeps s t) : Keeps s (supersede t n) := h.completeOrder

theorem Keeps.actReset (h : Keeps s t) {c : PowerCode} {src : OrderSrc} : Keeps s (actReset t n c src) :=
  h.supersede.setOrder.enterGated.portPowerReset.bootMarker

theorem Keeps.actCycle (h : Keeps s t) {src : OrderSrc} : Keeps s (actCycle t n src) := by
  unfold Machine.actCycle; exact h.supersede.setOrder.leavePower.portPowerReset.modSq

theorem Keeps.actPower (h : Keeps s t) {c : PowerCode} {src : OrderSrc} {flags : Byte} :
    Keeps s (actPower t n c src flags) := by
  unfold Machine.actPower
  cases c with
  | powerOn => exact h.setOrder.changeState
  | powerOff => exact h.setOrder.changeState.modSq
  | forceOff => exact h.supersede.leavePower.recordCompletion
  | reset => exact h.actReset
  | resetIfHung => exact h.actReset
  | cycle => exact h.actCycle
  | nmi => exact h.setOrder.modSq.bootMarker

theorem Keeps.pgoodUp (h : Keeps s t) : Keeps s (pgoodUp t n) :=
  Keeps.ite (Keeps.ite h.modSq.enterGated h.modSq) h

theorem Keeps.pgoodDown (h : Keeps s t) : Keeps s (pgoodDown t n) := by
  unfold Machine.pgoodDown; dsimp only
  split
  · exact Keeps.ite h.enterFault h
  · exact h.enterFault
  any_goals exact Keeps.ite h.nodeOff h.enterFault
  all_goals exact h

theorem Keeps.slpOffUp (h : Keeps s t) : Keeps s (slpOffUp t n) := Keeps.ite h.nodeOff h

theorem Keeps.inrushExpires (h : Keeps s t) : Keeps s (inrushExpires t n) := Keeps.ite h.modSq.enterGated h.modSq

theorem Keeps.powerGoodExpires (h : Keeps s t) : Keeps s (powerGoodExpires t n) := Keeps.ite h.modSq h.modSq.enterFault

theorem Keeps.bootExpires (h : Keeps s t) : Keeps s (bootExpires t n) := h.changeState.nodeEvent.completePowerUp

theorem Keeps.stopExpires (h : Keeps s t) : Keeps s (stopExpires t n) := by
  unfold Machine.stopExpires; split
  · exact Keeps.ite h.leavePower.completeOrder h.changeState.completeOrder
  · exact h.changeState

theorem Keeps.nmiExpires (h : Keeps s t) : Keeps s (nmiExpires t n) := h.modSq.completeOrder

theorem Keeps.admissionExpires (h : Keeps s t) : Keeps s (admissionExpires t n) := h.changeState.completeOrder

/-! Liveness. -/

theorem Keeps.recordHang (h : Keeps s t) {r : LastResult} : Keeps s (recordHang t n r) := h.modLv

theorem Keeps.hangAction (h : Keeps s t) : Keeps s (hangAction t n) := by
  unfold Machine.hangAction; dsimp only
  split
  · exact h
  · refine Keeps.ite ?_ h.nodeEvent
    split
    · exact h.recordHang
    · exact h.modLv.actPower.recordHang

theorem Keeps.detectHang (h : Keeps s t) : Keeps s (detectHang t n) := h.modLv.nodeEvent.bootMarker.freezeTail.hangAction

theorem Keeps.determineHung (h : Keeps s t) : Keeps s (determineHung t n) := Keeps.ite h (Keeps.ite h.detectHang h.modLv)

theorem Keeps.heartbeat (h : Keeps s t) : Keeps s (heartbeat t n) := by
  unfold Machine.heartbeat; split
  · exact h
  · exact h.modLv.determineHung
  · exact h.modLv

theorem Keeps.byteSignOfLife (h : Keeps s t) : Keeps s (byteSignOfLife t n) := Keeps.ite h.modLv.determineHung h

theorem Keeps.hbExpires (h : Keeps s t) : Keeps s (hbExpires t n) := h.modLv.determineHung

theorem Keeps.silExpires (h : Keeps s t) : Keeps s (silExpires t n) := h.modLv.determineHung

theorem Keeps.installLiveness (h : Keeps s t) {c : LivenessSettings} : Keeps s (installLiveness t n c) :=
  h.modLv.determineHung

/-! The Shelf Budget Unit. -/

theorem Keeps.determineShelf (h : Keeps s t) : Keeps s (determineShelf t) :=
  Keeps.ite h (Keeps.ite h.modShelf.shelfEvent h.modShelf.shelfEvent)

theorem Keeps.issueShed (h : Keeps s t) : Keeps s (issueShed t n) := by
  unfold Machine.issueShed; dsimp only
  split <;> exact h.modShelf.nodeEvent.shelfEvent.marker.actPower

theorem Keeps.admitHead (h : Keeps s t) : Keeps s (admitHead t n) := h.modShelf.enterInrush

theorem Keeps.budgetPass (h : Keeps s t) (hp : budgetPass t = some u) : Keeps s u := by
  unfold Machine.budgetPass at hp
  split at hp
  · split at hp
    · obtain ⟨n, -, rfl⟩ := Option.map_eq_some_iff.mp hp
      exact h.issueShed
    · cases hp
  · split at hp
    · cases hp
    · split at hp <;> cases hp
      exact h.admitHead

theorem Keeps.budgetPasses {k : Nat} (h : Keeps s t) : Keeps s (budgetPasses k t) := by
  induction k generalizing t with
  | zero => exact h.determineShelf
  | succ k ih =>
    unfold Machine.budgetPasses; dsimp only
    cases hp : Machine.budgetPass (Machine.determineShelf t) with
    | none => exact h.determineShelf
    | some u => exact ih (h.determineShelf.budgetPass hp)

theorem Keeps.evaluateBudget (h : Keeps s t) : Keeps s (evaluateBudget t) := h.budgetPasses

theorem Keeps.supplyChange (h : Keeps s t) : Keeps s (supplyChange t) := h.modShelf.shelfEvent.evaluateBudget

theorem Keeps.installBudget (h : Keeps s t) {c : BudgetCfg} : Keeps s (installBudget t c) := h.modShelf.evaluateBudget

theorem Keeps.installProfile (h : Keeps s t) {p : Profile} : Keeps s (installProfile t n p) := h.modSq.evaluateBudget

theorem Keeps.staggerExpires (h : Keeps s t) : Keeps s (staggerExpires t) := h.modShelf.evaluateBudget

/-! Attachments and returns. -/

theorem Keeps.installAttachment (h : Keeps s t) {g : AttachFigures} : Keeps s (installAttachment t n g) := by
  unfold Machine.installAttachment; exact h.modAtt.marker.modFlags

theorem Keeps.detachCheck (h : Keeps s t) : Keeps s (detachCheck t n) := Keeps.ite h.modAtt.marker.slotDone h

theorem Keeps.freeWhere (h : Keeps s t) {p : State → FrameId → Bool} : Keeps s (freeWhere t n p) :=
  Keeps.foldl (fun _ _ k => Keeps.ite k.freeFrame k) _ h

theorem Keeps.discardFrames (h : Keeps s t) : Keeps s (discardFrames t n) := by
  unfold Machine.discardFrames; exact h.freeWhere.modAtt

theorem Keeps.detachPrefetch (h : Keeps s t) : Keeps s (detachPrefetch t n) := Keeps.ite h.dropPrefetch.gateCheck h

theorem Keeps.freeIdleFrames (h : Keeps s t) : Keeps s (freeIdleFrames t n) := h.freeWhere.freeWhere

theorem Keeps.beginDetach (h : Keeps s t) {slot : Nat} {k : DetachKind} : Keeps s (beginDetach t n slot k) := by
  unfold Machine.beginDetach; dsimp only
  cases k with
  | plain =>
    simp only [reduceCtorEq, if_true, if_false]
    exact h.modAtt.detachPrefetch.modFlags.endCommand.freeIdleFrames.flushAll.retryWaits.detachCheck
  | force =>
    simp only [reduceCtorEq, if_true, if_false]
    exact h.modAtt.detachPrefetch.discardFrames.modFlags.endCommand.freeIdleFrames.retryWaits.detachCheck

theorem Keeps.forceDetach (h : Keeps s t) {slot : Nat} : Keeps s (forceDetach t n slot) := by
  unfold Machine.forceDetach
  exact h.slotDone.modAtt.discardFrames.freeIdleFrames.retryWaits.detachCheck

theorem Keeps.acceptDetach (h : Keeps s t) {slot : Nat} {k : DetachKind} : Keeps s (acceptDetach t n slot k) :=
  Keeps.ite h.forceDetach h.beginDetach

theorem Keeps.lateFill (h : Keeps s t) {f : FrameId} : Keeps s (lateFill t f n) :=
  Keeps.ite h.modFrame.modAtt.nodeEvent h

theorem Keeps.prefetchFilled (h : Keeps s t) {tag : Nat} : Keeps s (prefetchFilled t n tag) :=
  Keeps.ite h.dropWaiter.modSq h

theorem Keeps.afterReturn (h : Keeps s t) {e : EntryId} : Keeps s (afterReturn t e n) :=
  h.freeEntryServe.retryWaits.detachCheck

theorem Keeps.fillReturned (h : Keeps s t) {e : EntryId} : Keeps s (fillReturned t e) :=
  (Keeps.ite h.lateFill.freeFrame h.lateFill.makeClean.prefetchFilled).afterReturn.gateCheck

theorem Keeps.recordFailure (h : Keeps s t) {e : EntryId} {tag : Nat} {k : TransferKind} :
    Keeps s (recordFailure t e n tag k) := by
  unfold Machine.recordFailure; exact h.modAtt

theorem Keeps.fetchReturnedFailed (h : Keeps s t) {e : EntryId} : Keeps s (fetchReturnedFailed t e) :=
  (Keeps.ite h.freeFrame.modAtt.recordFailure.endCommand h.freeFrame.modAtt.recordFailure).afterReturn

theorem Keeps.flushReturned (h : Keeps s t) {e : EntryId} : Keeps s (flushReturned t e) :=
  (Keeps.ite h.freeFrame h.makeClean).flushCheck.afterReturn

theorem Keeps.stopWait (h : Keeps s t) {f : FrameId} : Keeps s (stopWait t n f) := by
  rcases stopWait_cases t n f with he | ⟨-, he⟩ <;> rw [he]
  · exact h
  · exact h.modFlags

theorem Keeps.flushReturnedFailed (h : Keeps s t) {e : EntryId} : Keeps s (flushReturnedFailed t e) := by
  unfold Machine.flushReturnedFailed; dsimp only
  refine Keeps.afterReturn (Keeps.ite h.modAtt.recordFailure.freeFrame.modAtt (Keeps.ite (Keeps.requestFlush ?_) ?_))
  all_goals
    exact Keeps.ite h.modAtt.recordFailure.stopWait.joinDirty.endCommand h.modAtt.recordFailure.stopWait.joinDirty

theorem Keeps.waitExpires (h : Keeps s t) : Keeps s (waitExpires t n) := by
  unfold Machine.waitExpires; dsimp only
  split
  · exact h
  · split
    · exact (Keeps.ite h.modFrame h).endCommand
    · exact h.endCommand

theorem Keeps.ageExpires (h : Keeps s t) {f : FrameId} : Keeps s (ageExpires t f) := h.modFrame.requestFlush

/-! The Watch Matcher. -/

theorem Keeps.issueAction (h : Keeps s t) {i : WatchId} {a : WatchAction} : Keeps s (issueAction t i n a).1 := by
  cases a with
  | note => exact h
  | mark => exact h.marker
  | inject p => exact h.injectAction
  | power c flags =>
    unfold Machine.issueAction orderAction; dsimp only
    split
    · exact h
    · exact h.actPower
  | capture slot => exact h.store.nodeEvent
  | bootDone =>
    unfold Machine.issueAction; dsimp only
    split
    · exact h.bootDone
    · exact h
  | freezeTail => exact h.freezeTail

theorem Keeps.takeMatch (h : Keeps s t) {i : WatchId} : Keeps s (takeMatch n t i) := by
  unfold Machine.takeMatch; split
  · exact h
  · exact Keeps.ite h.modPair ((h.modPair (n := n)).nodeEvent.issueAction.modPair (n := n))

theorem Keeps.matchByte (h : Keeps s t) {b : Byte} : Keeps s (matchByte t n b) :=
  Keeps.foldl (fun _ _ k => k.takeMatch) _ h.modNode

/-! The Order Engine. -/

theorem Keeps.runAction (h : Keeps s t) {k : SlotId} {a : OrderAction} : Keeps s (runAction t k a) := by
  unfold Machine.runAction
  cases a with
  | power n c flags => exact h.modLv.actPower
  | inject n i => exact h.modCh
  | uartSet n c => exact h.endRequest.modCh.slotDone
  | journalLayout n l => exact h.modNode.slotDone
  | tailFreeze n => exact h.freezeTail.slotDone
  | tailRelease n => exact h.modJr.slotDone
  | watchSet i f => exact h.modWatch.slotDone
  | watchClear i => exact h.modWatch.slotDone
  | watchRearm i nodes => exact h.modWatch.slotDone
  | attach n g => exact h.installAttachment.slotDone
  | detach n d => exact h.acceptDetach
  | budgetSet c => exact h.installBudget.slotDone
  | profileSet n p => exact h.installProfile.slotDone
  | livenessSet n c => exact h.installLiveness.slotDone
  | capture n slot => exact h.store.slotDone

theorem Keeps.postSlot (h : Keeps s t) {k : SlotId} : Keeps s (postSlot t k) := by
  unfold Machine.postSlot; dsimp only
  split
  · exact h.modSlot.store.slotDone
  · exact h.modSlot.store.modSlot.runAction

theorem Keeps.postOrder (h : Keeps s t) {k : SlotId} {code target flags : Byte} :
    Keeps s (postOrder t k code target flags) := Keeps.ite h.refuseWrite h.store.postSlot

theorem Keeps.writeFree (h : Keeps s t) {k : SlotId} : Keeps s (writeFree t k) := Keeps.ite h.refuseWrite h.modSlot

end

/-! The resets, but for the start of a hold. -/

section
variable {s t u : State} {n : NodeId}

theorem Keeps.settleNode (h : Keeps s t) : Keeps s (settleNode t n) := by
  have hset : Keeps s (settleState t n) :=
    Keeps.ite h.leavePower (Keeps.ite (h.modNode (n := n)) h.leavePower)
  have hport : Keeps s ((settleState t n).modNode n fun d =>
      { d with sq := { d.sq with faultReason := .none, prefetch := .none, order := none },
               lv := { d.lv with recovery := 0 }, ch := d.ch.enterMarkWait, port := d.port.resetValues }) :=
    hset.onNode id nofun
  exact Keeps.ite hport hport.nodeEvent

theorem Keeps.dropMedia (h : Keeps s t) : Keeps s (dropMedia t) := by
  refine h.trans ⟨framesUnique_of_owners fun f k => ?_, id, fun n => ?_, fun n => ?_⟩
  · simp [Machine.dropMedia, State.frame]
  all_goals simp [Machine.dropMedia, State.node]

theorem Keeps.releaseBudget (h : Keeps s t) : Keeps s (releaseBudget t) :=
  (Keeps.ite h.modShelf h.modShelf.shelfEvent).evaluateBudget

theorem Keeps.raiseSets (h : Keeps s t) : Keeps s (raiseSets t) := by
  unfold Machine.raiseSets; dsimp only
  refine Keeps.ite ?_ (Keeps.setAttn ?_)
  all_goals exact Keeps.foldl (fun _ _ k => Keeps.ite k k.setAttn) _ h

theorem Keeps.abortSlot (h : Keeps s t) {k : SlotId} : Keeps s (abortSlot t k) := Keeps.ite h.slotDone h

theorem Keeps.releaseHold (h : Keeps s t) : Keeps s (releaseHold t) := by
  have hended : Keeps s { t with attn := 0, hold := false } := h.trans ⟨id, nofun, fun _ => id, fun _ => id⟩
  unfold Machine.releaseHold
  exact (Keeps.foldl (fun _ _ k => k.abortSlot) _
    (Keeps.foldl (fun _ _ k => k.settleNode) _ hended.dropMedia.watch).releaseBudget).raiseSets.init

/-- R176: a full reset leaves every frame FREE and every port idle. -/
theorem fullReset_node (s : State) (n : NodeId) : ((beginFullReset s).node n).port = Port.full := by
  simp [beginFullReset, State.full, State.node, vector_get_eq, Node.full]

theorem fullReset_frame (s : State) (f : FrameId) : (beginFullReset s).frame f = Frame.full := by
  simp [beginFullReset, State.full, State.frame, vector_get_eq]

theorem endInitialization_node (s : State) (n : NodeId) : ((endInitialization s).node n).port = Port.full := by
  rw [← fullReset_node s n]; simp [endInitialization, State.node]

theorem Keeps.beginFullReset (s : State) : Keeps s (beginFullReset s) := by
  refine ⟨framesUnique_of_owners fun f k => ?_, nofun, fun n => ?_, fun n _ => ?_⟩
  · rw [fullReset_frame]; nofun
  · rw [fullReset_node]; nofun
  · rw [fullReset_node]; rfl

theorem Keeps.endInitialization (s : State) : Keeps s (endInitialization s) := by
  refine ⟨framesUnique_of_owners fun f k => ?_, nofun, fun n => ?_, fun n _ => ?_⟩
  · rw [show (Machine.endInitialization s).frame f = _ from fullReset_frame s f]; nofun
  · rw [endInitialization_node]; nofun
  · rw [endInitialization_node]; rfl

/-! The buses, but for MP_CMD and MP_CTL. -/

theorem Keeps.acknowledge (h : Keeps s t) {r : AckRecord} {data : Word} : Keeps s (acknowledge t r data) := by
  unfold Machine.acknowledge
  cases r with
  | shelf => exact h.modShelf
  | node n => exact h.modNode

theorem Keeps.writeAck (h : Keeps s t) {r : AckRecord} {data : Word} : Keeps s (writeAck t r data) :=
  Keeps.ite h.refuseWrite h.acknowledge

theorem Keeps.writeFenceHi (h : Keeps s t) {data : Word} : Keeps s (writeFenceHi t n data) :=
  Keeps.ite h.refuseWrite h.modNode.fenceEvent

theorem Keeps.writeEntryState (h : Keeps s t) {e : EntryId} {value : Nat} : Keeps s (writeEntryState t e value) := by
  unfold Machine.writeEntryState
  split
  · exact h.refuseWrite
  · split
    · exact h.refuseWrite
    · exact Keeps.ite h.fillReturned (Keeps.ite h.fetchReturnedFailed h.refuseWrite)
    · exact Keeps.ite h.flushReturned (Keeps.ite h.flushReturnedFailed h.refuseWrite)

theorem Keeps.writeSlotState (h : Keeps s t) {k : SlotId} {data : Word} : Keeps s (writeSlotState t k data) :=
  Keeps.ite h.refuseWrite (Keeps.ite h.writeFree (Keeps.ite h.postSlot h.refuseWrite))

theorem Keeps.watched (h : Keeps s t) {lanes : BitVec 4} {f : State → State} (hf : Keeps s (f t)) :
    Keeps s (watched t lanes f) := Keeps.ite hf h.refuseWrite

theorem Keeps.storeLanes (h : Keeps s t) {a : Nat} {lanes : BitVec 4} {data : Word} :
    Keeps s (storeLanes t a lanes data) := h.store

theorem Keeps.writeNodeWord (h : Keeps s t) {offset : Nat} {lanes : BitVec 4} {data : Word} :
    Keeps s (writeNodeWord t n offset lanes data) := by
  unfold Machine.writeNodeWord; split
  · exact h.watched h.writeAck
  · exact h.modNode
  · exact h.watched h.writeFenceHi
  · exact h.refuseWrite

theorem Keeps.writeEntryWord (h : Keeps s t) {e : EntryId} {offset : Nat} {lanes : BitVec 4} {data : Word} :
    Keeps s (writeEntryWord t e offset lanes data) := by
  unfold Machine.writeEntryWord; split
  · exact h.watched h.writeEntryState
  · exact Keeps.ite h.refuseWrite h.modEntry
  · exact h.refuseWrite

theorem Keeps.writeSlotWord (h : Keeps s t) {k : SlotId} {offset : Nat} {lanes : BitVec 4} {data : Word} :
    Keeps s (writeSlotWord t k offset lanes data) :=
  Keeps.ite (h.watched h.writeSlotState) (Keeps.ite h.refuseWrite h.storeLanes)

theorem Keeps.writeBank0 (h : Keeps s t) {a : Nat} {lanes : BitVec 4} {data : Word} :
    Keeps s (writeBank0 t a lanes data) :=
  Keeps.ite (Keeps.ite (h.watched h.writeAck) h.refuseWrite) <| Keeps.ite h.writeNodeWord <| Keeps.ite h.refuseWrite <|
    Keeps.ite h.writeEntryWord <| Keeps.ite h.writeSlotWord <| Keeps.ite h.refuseWrite h.storeLanes

theorem Keeps.writeExchange (h : Keeps s t) {word : BitVec 18} {lanes : BitVec 4} {data : Word} :
    Keeps s (writeExchange t word lanes data) :=
  Keeps.ite h <| Keeps.ite (Keeps.ite h.refuseWrite h.writeBank0) <| Keeps.ite h.refuseWrite <|
    Keeps.ite (Keeps.ite h.storeLanes h.refuseWrite) h.storeLanes

theorem Keeps.writeMpData (h : Keeps s t) {w : Word} : Keeps s (writeMpData t n w) := Keeps.ite h h.writeData

/-! The console events, and the millisecond. -/

theorem Keeps.deliverByte (h : Keeps s t) {m : Samples} : Keeps s (deliverByte t n m) :=
  h.modCh.matchByte.assembleByte.byteSignOfLife.modCh

theorem Keeps.deliverBreak (h : Keeps s t) : Keeps s (deliverBreak t n) := h.modCh.endRequest.modNode

theorem Keeps.frameSampled (h : Keeps s t) {data : Byte} {parity stop1 stop2 : Bool} :
    Keeps s (frameSampled t n data parity stop1 stop2) := Keeps.ite h.deliverBreak h.deliverByte

theorem Keeps.publish (h : Keeps s t) : Keeps s (publish u t) :=
  h.same (publish_frames ..) (publish_nodes ..) (publish_hold ..)

theorem Keeps.stringSent (h : Keeps s t) : Keeps s (stringSent t n) := by
  unfold Machine.stringSent; split
  · exact h.headSent
  all_goals exact h

theorem Keeps.breakSent (h : Keeps s t) : Keeps s (breakSent t n) := by
  unfold Machine.breakSent; split
  · exact Keeps.ite h.headSent h
  all_goals exact h

end

/-! ### Steps that keep the two invariants

The acceptance of a command and the writes of MP_CTL change what `Keeps` names, and keep the invariants all the same: a
command is taken where neither RST nor a hold keeps the port, and RST is set where no command is in progress. -/

/-- The second state has the frames' owners apart, and the ports that are kept idle, if the first has. -/
structure Sound (s t : State) : Prop where
  tags : FramesUnique s → FramesUnique t
  ports : PortInv s → PortInv t

section
variable {s t u : State} {n : NodeId}

theorem Keeps.sound (h : Keeps s t) : Sound s t :=
  ⟨h.tags, fun hp n hk => h.cmd n (hp n (hk.imp h.hold (h.rst n)))⟩

theorem Sound.trans (h : Sound s t) (k : Sound t u) : Sound s u := ⟨k.tags ∘ h.tags, k.ports ∘ h.ports⟩

/-- A port that is left with no command may be kept idle. -/
theorem sound_modPort_idle {g : Port → Port} (hc : PortInv s → (g (s.node n).port).cmd = none) :
    Sound s (s.modPort n g) := by
  refine ⟨id, fun hp m hk => ?_⟩
  by_cases hm : m = n
  · subst hm; simpa using hc hp
  · simp only [State.modPort_eq, State.modNode_node_ne _ _ hm] at hk ⊢
    exact hp m hk

/-- A port that is not kept idle may take a command. -/
theorem sound_modPort_free {g : Port → Port} (hh : s.hold = false) (hr : (g (s.node n).port).rst = false) :
    Sound s (s.modPort n g) := by
  refine ⟨id, fun hp m hk => ?_⟩
  by_cases hm : m = n
  · subst hm; simp [hh, hr] at hk
  · simp only [State.modPort_eq, State.modNode_node_ne _ _ hm] at hk ⊢
    exact hp m hk

theorem acceptCommand_sound {k : MediaCmd} (hh : s.hold = false) (hr : (s.node n).port.rst = false) :
    Sound s (acceptCommand s n k) := by
  have htaken (c : PortCmd) : Sound s (s.modPort n fun p => { p with cmd := some c }) := sound_modPort_free hh hr
  cases k with
  | identify => exact htaken _
  | flush => exact (htaken _).trans (Keeps.refl _).flushAll.flushCheck.sound
  | read => exact (htaken _).trans (Keeps.refl _).windowPass.allocateOrWait.sound
  | write => exact (htaken _).trans (Keeps.refl _).windowPass.allocateOrWait.sound

/-- R129, R130: a command is taken only where BUSY is clear. -/
theorem takeCommand_sound (s : State) (n : NodeId) (w : Word) : Sound s (takeCommand s n w) := by
  unfold takeCommand
  split
  · exact (Keeps.refl s).sound
  · next hbusy =>
    simp only [State.busy, Bool.or_eq_true, not_or, Bool.not_eq_true] at hbusy
    obtain ⟨⟨-, hr⟩, hh⟩ := hbusy
    have htake : Keeps s (s.modPort n (·.take w)) := (Keeps.refl s).modFlags
    dsimp only
    split
    · exact htake.sound.trans (sound_modPort_idle fun _ => rfl)
    · exact htake.sound.trans (acceptCommand_sound hh (by simpa [Port.take] using hr))

theorem writeCmd_sound (s : State) (n : NodeId) (w : Word) : Sound s (writeCmd s n w) := by
  unfold writeCmd; split
  · exact (Keeps.refl s).sound
  · exact takeCommand_sound s n w

/-- R137: no command is in progress once it has ended with RESET. -/
theorem resetCommand_cmd (s : State) (n : NodeId) : ((resetCommand s n).node n).port.cmd = none := by
  unfold resetCommand; split
  · assumption
  · have hfreed (t : State) (w : Waiter) : Keeps t (retryWaits (dropWaiter (freeAssembling t n) w)) :=
      (Keeps.refl t).freeAssembling.dropWaiter.retryWaits
    dsimp only
    exact (hfreed _ _).cmd n (by simp [Port.ended])

theorem portResetOn_sound (s : State) (n : NodeId) (ie : Bool) : Sound s (portResetOn s n ie) := by
  unfold portResetOn; split
  · exact (Keeps.refl s).modFlags.sound
  · exact (Keeps.refl s).resetCommand.sound.trans (sound_modPort_idle fun _ => resetCommand_cmd s n)

theorem portResetOff_keeps (s : State) (n : NodeId) (ie : Bool) : Keeps s (portResetOff s n ie) :=
  Keeps.ite ((Keeps.refl s).modPort id nofun) (Keeps.refl s).modFlags

/-- R137, R140: a write of MP_CTL. During a hold the port has no command, so that RST may be stored. -/
theorem writeCtl_sound (s : State) (n : NodeId) (rst ie : Bool) : Sound s (writeCtl s n rst ie) := by
  unfold writeCtl
  split
  · next hh => exact sound_modPort_idle fun hp => hp n (.inl hh)
  · split
    · exact (Keeps.refl s).sound
    · split
      · exact portResetOn_sound s n ie
      · exact (portResetOff_keeps s n ie).sound

theorem writePort_sound {offset : Nat} {data : Word} (h : writePort s n offset data = some t) : Sound s t := by
  have hwindow {g : Port → Port} (hg : ∀ p, (g p).cmd = p.cmd ∧ (g p).rst = p.rst) : Sound s (writeWindow s n g) :=
    (Keeps.ite (Keeps.refl s) ((Keeps.refl s).modFlags hg)).sound
  unfold writePort at h
  split at h <;> cases h
  · exact writeCmd_sound s n data
  any_goals exact (Keeps.refl s).sound
  · exact hwindow fun _ => ⟨rfl, rfl⟩
  · exact hwindow fun _ => ⟨rfl, rfl⟩
  · exact (Keeps.refl s).writeMpData.sound
  · exact writeCtl_sound s n _ _

/-- R140: at the start of a hold every command in progress ends. -/
theorem portHoldStart_cmd (p : Port) (now : Word) : (p.holdStart now).cmd = none := by
  unfold Port.holdStart
  cases h : p.cmd with
  | none => exact h
  | some c => rfl

theorem beginHold_sound (s : State) : Sound s (beginHold s) := by
  refine ⟨framesUnique_of_owners fun f k => ?_, fun _ n _ => ?_⟩
  · simp [beginHold, State.frame]
  · simp [beginHold, State.node, Node.holdStart, portHoldStart_cmd]

end

/-! ### Wait timers (R153) -/

section
variable {s t : State} {n m : NodeId}

/-- DATA, and so the wait for it, looks at a port's command and RST and at the frames' owners and states. -/
theorem waiting_congr (hc : (t.node n).port.cmd = (s.node n).port.cmd) (hr : (t.node n).port.rst = (s.node n).port.rst)
    (ho : ∀ f, (t.frame f).own = (s.frame f).own) (hs : ∀ f, (t.frame f).st = (s.frame f).st) :
    t.waiting n = s.waiting n := by
  simp only [State.waiting, State.data, State.counterFrame, State.owned, hc, hr, ho, hs]

/-- What settling a node's wait timer does: it stands already as it should, or it is made to stand so. -/
theorem settleWait_cases (s : State) (n : NodeId) :
    ((s.node n).port.waitT.isSome = s.waiting n ∧ settleWait s n = s) ∨
      ∃ w : Option Timer, w.isSome = s.waiting n ∧ settleWait s n = s.modPort n fun p => { p with waitT := w } := by
  have he : settleWait s n =
      if !s.waiting n then (if (s.node n).port.waitT.isSome then s.modPort n fun p => { p with waitT := none } else s)
      else if (s.node n).port.waitT.isSome then s
      else s.modPort n fun p => { p with waitT := some (Timer.start (s.node n).att.fig.fetchTimeoutMs) } := rfl
  cases hw : s.waiting n <;> cases ht : (s.node n).port.waitT.isSome <;> simp only [hw, ht] at he
  · exact .inl ⟨rfl, he⟩
  · exact .inr ⟨none, rfl, he⟩
  · exact .inr ⟨some _, rfl, he⟩
  · exact .inl ⟨rfl, he⟩

/-- A wait timer that is settled stays so while another is settled, and the other is settled then. -/
theorem settleWait_settles (h : m = n ∨ (s.node m).port.waitT.isSome = s.waiting m) :
    ((settleWait s n).node m).port.waitT.isSome = (settleWait s n).waiting m := by
  rcases settleWait_cases s n with ⟨hn, he⟩ | ⟨w, hw, he⟩ <;> rw [he]
  · rcases h with rfl | h <;> assumption
  · have hwaiting : (s.modPort n fun p => { p with waitT := w }).waiting m = s.waiting m := by
      refine waiting_congr ?_ ?_ (fun _ => rfl) fun _ => rfl
      all_goals rw [State.modPort_eq, State.modNode_node]; split <;> rfl
    rw [hwaiting, State.modPort_eq]
    by_cases hm : m = n
    · subst hm; simpa using hw
    · simpa [hm] using h

theorem foldl_settleWait_settles (ns : List NodeId) (h : m ∈ ns ∨ (s.node m).port.waitT.isSome = s.waiting m) :
    ((ns.foldl settleWait s).node m).port.waitT.isSome = (ns.foldl settleWait s).waiting m := by
  induction ns generalizing s with
  | nil => simpa using h
  | cons n ns ih =>
    rw [List.mem_cons] at h
    by_cases hm : m ∈ ns
    · exact ih (.inl hm)
    · exact ih (.inr (settleWait_settles (h.imp_left fun h => h.resolve_right hm)))

theorem mem_allNodes (n : NodeId) : n ∈ allNodes := by revert n; decide

/-- R153: the end of an event leaves every wait timer as it should be. -/
theorem settleWaits_settled (s : State) : WaitsSettled (settleWaits s) :=
  fun n => foldl_settleWait_settles allNodes (.inl (mem_allNodes n))

theorem finish_settled (s u : State) : WaitsSettled (finish s u) := by
  unfold finish
  exact waitsSettled_congr (settleWaits_settled _) (fun _ => by rw [publish_node]) (publish_frames ..)

end

/-! ### Every step -/

/-- A step keeps the three invariants of frames and ports. -/
structure Safe (s t : State) : Prop where
  tags : FramesUnique s → FramesUnique t
  ports : PortInv s → PortInv t
  waits : WaitInv s → WaitInv t

section
variable {s t u : State} {n : NodeId}

theorem Safe.trans (h : Safe s t) (k : Safe t u) : Safe s u :=
  ⟨k.tags ∘ h.tags, k.ports ∘ h.ports, k.waits ∘ h.waits⟩

/-- The end of an event keeps what its effect kept, and settles the wait timers. -/
theorem safe_finish (h : Sound s u) : Safe s (finish s u) := by
  have hend : Keeps u (finish s u) := by
    unfold finish
    exact (Keeps.ite (Keeps.refl u).evaluateBudget (Keeps.refl u)).settleWaits.publish
  exact ⟨(h.trans hend.sound).tags, (h.trans hend.sound).ports, fun _ _ => finish_settled s u⟩

theorem safe_event (h : Keeps s u) : Safe s (finish s u) := safe_finish h.sound

/-- A step in a hold or an initialization, or into one, has no wait timer to settle. -/
theorem safe_of_init (h : Sound s t) (hi : t.init = true) : Safe s t :=
  ⟨h.tags, h.ports, fun _ hn => absurd (hi.symm.trans hn) (by decide)⟩

/-- A step that is no event and leaves the owners and states of frames, the commands, and which wait timers run. -/
theorem safe_of_idle (h : Keeps s t) (hi : t.init = s.init) (hp : ∀ n, (t.node n).port.cmd = (s.node n).port.cmd ∧
      (t.node n).port.rst = (s.node n).port.rst ∧ (t.node n).port.waitT.isSome = (s.node n).port.waitT.isSome)
    (hf : ∀ f, (t.frame f).own = (s.frame f).own ∧ (t.frame f).st = (s.frame f).st) : Safe s t := by
  refine ⟨h.sound.tags, h.sound.ports, fun hw hn n => ?_⟩
  obtain ⟨hc, hr, ht⟩ := hp n
  rw [ht, hw (hi.symm.trans hn) n, waiting_congr hc hr (fun f => (hf f).1) fun f => (hf f).2]

/-- A step that is no event and leaves the nodes, the frames and the hold. -/
theorem safe_of_same (hn : t.nodes = s.nodes) (hf : t.frames = s.frames) (hi : t.init = s.init) (hh : t.hold = s.hold) :
    Safe s t := by
  have hnode (n : NodeId) : t.node n = s.node n := by simp only [State.node, hn]
  have hframe (f : FrameId) : t.frame f = s.frame f := by simp only [State.frame, hf]
  exact safe_of_idle ((Keeps.refl s).same hf hn hh) hi (fun n => by rw [hnode]; exact ⟨rfl, rfl, rfl⟩)
    fun f => by rw [hframe]; exact ⟨rfl, rfl⟩

theorem safe_refl (s : State) : Safe s s := safe_of_same rfl rfl rfl rfl

theorem safe_blockEvent {f : State → State} (h : Keeps s (f s)) : Safe s (blockEvent s f) := by
  unfold blockEvent; split
  · exact safe_refl s
  · exact safe_event h

theorem safe_expiry {x : Option Timer} {f : State → State} (h : Keeps s (f s)) : Safe s (blockEvent s (whenRanOut x f)) :=
  safe_blockEvent (Keeps.ite h (Keeps.refl s))

/-- An event of a pin: its level, and while the part runs what the block makes of it. -/
theorem safe_pinEvent {level f : State → State} (hl : Keeps s (level s)) (hi : (level s).init = s.init)
    (hf : Keeps s (f (level s))) : Safe s (pinEvent s level f) := by
  cases hinit : s.init with
  | true => rw [pinEvent_init hinit]; exact safe_of_init hl.sound (hi.trans hinit)
  | false => rw [pinEvent_run hinit]; exact safe_event hf

theorem safe_modPins {g : Pins → Pins} {f : State → State} (hf : ∀ t, Keeps s t → Keeps s (f t)) :
    Safe s (pinEvent s (fun s => s.modPins n g) f) :=
  safe_pinEvent (Keeps.refl s).modPins rfl (hf _ (Keeps.refl s).modPins)

theorem safe_rxdLevel {high : State → Bool} {f : State → State} (hf : ∀ t, Keeps s t → Keeps s (f t)) :
    Safe s (pinEvent s (fun s => rxdLevel s n (high s)) f) :=
  safe_pinEvent (Keeps.refl s).modCh rfl (hf _ (Keeps.refl s).modCh)

theorem safe_writeCtrl (s : State) (reset imode ien : Bool) : Safe s (writeCtrl s reset imode ien) := by
  have hstored : Safe s (storeControl s imode ien) := safe_of_same rfl rfl rfl rfl
  have hkeeps : Keeps s (storeControl s imode ien) := (Keeps.refl s).same
  unfold writeCtrl
  split
  · exact safe_refl s
  · dsimp only
    split
    · split
      · exact hstored
      · exact safe_of_init (hkeeps.sound.trans ((beginHold_sound _).trans (Keeps.refl _).publish.sound)) rfl
    · split
      · exact safe_event hkeeps.releaseHold
      · exact hstored

theorem safe_writeRegister (s : State) (offset : Nat) (data : Word) : Safe s (writeRegister s offset data) := by
  unfold writeRegister; split
  · exact safe_writeCtrl ..
  · exact safe_of_same rfl rfl rfl rfl
  · exact safe_of_same rfl rfl rfl rfl
  · exact safe_refl s

theorem safe_showDeferred (s : State) (n : NodeId) : Safe s (showDeferred s n) := by
  unfold showDeferred; dsimp only; split
  · exact safe_refl s
  · exact safe_of_same rfl rfl rfl rfl

theorem safe_initializationEnd (s : State) : Safe s (if ctrlIgnored s then endInitialization s else s) := by
  split
  · have hk := Keeps.endInitialization s
    refine ⟨hk.tags, hk.sound.ports, fun _ _ n => ?_⟩
    rw [State.waiting, endInitialization_node]; rfl
  · exact safe_refl s

/-- What a millisecond changes of a state besides the timers. -/
theorem tick_cases (s : State) : ∃ c r p, tick s = { s with msclk := c, records := r, pending := p } ∨
    tick s = { tickTimers s with msclk := c, records := r, pending := p } := by
  unfold tick; dsimp only
  cases hc : ctrlIgnored s with
  | true => simp only [hc, if_true]; exact ⟨_, _, _, .inl rfl⟩
  | false =>
    have hc' : ctrlIgnored { s with msclk := s.msclk + 1 } = false := hc
    simp only [Bool.false_eq_true, if_false, hc']
    split
    · exact ⟨_, _, _, .inl rfl⟩
    · exact ⟨_, _, _, .inr rfl⟩

/-- Each millisecond a running timer goes on running. -/
theorem safe_tick (s : State) : Safe s (tick s) := by
  obtain ⟨c, r, p, he | he⟩ := tick_cases s <;> rw [he]
  · exact safe_of_same rfl rfl rfl rfl
  · have hnode (n : NodeId) : (tickTimers s).node n = (s.node n).tick := by
      simp only [tickTimers, State.node, vmap_get]
    have hframe (f : FrameId) : (tickTimers s).frame f = { s.frame f with ageT := tickT (s.frame f).ageT } := by
      simp only [tickTimers, State.frame, vmap_get]
    have hruns (t : Option Timer) : (tickT t).isSome = t.isSome := by cases t <;> rfl
    have hport (n : NodeId) :
        ((tickTimers s).node n).port = { (s.node n).port with waitT := tickT (s.node n).port.waitT } := by
      rw [hnode]; rfl
    have hkeeps : Keeps s (tickTimers s) := by
      refine ⟨framesUnique_of_owners fun f k => ?_, id, fun n => ?_, fun n => ?_⟩
      · rw [hframe]; exact id
      · rw [hport]; exact id
      · rw [hport]; exact id
    refine safe_of_idle (hkeeps.same rfl rfl rfl) rfl (fun n => ?_) fun f => ?_
    · show ((tickTimers s).node n).port.cmd = _ ∧ ((tickTimers s).node n).port.rst = _ ∧
        ((tickTimers s).node n).port.waitT.isSome = _
      rw [hport]; exact ⟨rfl, rfl, hruns _⟩
    · show ((tickTimers s).frame f).own = _ ∧ ((tickTimers s).frame f).st = _
      rw [hframe]; exact ⟨rfl, rfl⟩

theorem safe_of_next {a b : State} (h : (.next a : Answer) = .next b) (ha : Safe s a) : Safe s b := by
  cases h; exact ha

/-- Every command keeps the three invariants. -/
theorem exec_safe {c : Instr} {s t : State} (h : exec c s = .next t) : Safe s t := by
  have hs := Keeps.refl s
  cases c with
  | powerOn k x f | powerOff k x f | forceOff k x f | reset k x f | resetIfHung k x f | cycle k x f | nmi k x f | inject k x f
  | uartSet k x f | journalLayout k x f | tailFreeze k x f | tailRelease k x f | watchSet k x f | watchClear k x f
  | watchRearm k x f | attach k x f | detach k x f | budgetSet k x f | profileSet k x f | livenessSet k x f | capture k x f
  | unknownOrder k c x f => exact safe_of_next h (safe_event hs.postOrder)
  | slotFree k => exact safe_of_next h (safe_event hs.writeFree)
  | exchangeWrite w l d => exact safe_of_next h (safe_event hs.writeExchange)
  | fenceHiWrite n d => exact safe_of_next h (safe_event hs.writeFenceHi)
  | eventAckWrite r d => exact safe_of_next h (safe_event hs.writeAck)
  | fetchFilled e | fetchFailed e | flushFlushed e | flushFailed e => exact safe_of_next h (safe_event hs.writeEntryState)
  | softResetHold m e | softResetRelease m e | interruptControlWrite m e => exact safe_of_next h (safe_writeCtrl ..)
  | attnWrite d | attnEnWrite d | attnIntPulseEnd => exact safe_of_next h (safe_of_same rfl rfl rfl rfl)
  | deferredShowing n => exact safe_of_next h (safe_showDeferred s n)
  | fullReset => exact safe_of_next h (safe_of_init (Keeps.beginFullReset s).sound rfl)
  | initializationEnd => exact safe_of_next h (safe_initializationEnd s)
  | registerWrite b o d =>
    cases b with
    | management => exact safe_of_next h (safe_writeRegister ..)
    | node n =>
      cases hp : writePort s n o.toNat d with
      | none => simp [exec, execRegisterWrite, hp] at h
      | some u =>
        simp only [exec, execRegisterWrite, hp] at h
        exact safe_of_next h (safe_finish (writePort_sound hp))
  | read n | write n | identify n | flush n | badCommand n w => exact safe_of_next h (safe_finish (writeCmd_sound s n _))
  | mpStatRead n => exact safe_of_next h (safe_event hs.readStat)
  | mpDataRead n => exact safe_of_next h (safe_event hs.readData)
  | mpDataWrite n w => exact safe_of_next h (safe_event hs.writeMpData)
  | portResetSet n e | portResetRelease n e | interruptEnableWrite n e =>
    exact safe_of_next h (safe_finish (writeCtl_sound s n _ _))
  | presFall n => exact safe_of_next h (safe_modPins fun _ k => k.removeNode)
  | presRise n => exact safe_of_next h (safe_modPins fun _ k => k.insertNode)
  | pgoodRise n => exact safe_of_next h (safe_modPins fun _ k => k.pgoodUp)
  | pgoodFall n => exact safe_of_next h (safe_modPins fun _ k => k.pgoodDown)
  | slpOffRise n b => exact safe_of_next h (safe_modPins fun _ k => Keeps.ite k.slpOffUp k)
  | hbeatRise n b => exact safe_of_next h (safe_modPins fun _ k => Keeps.ite k.heartbeat k)
  | supplyPinChange p =>
    have hp : Keeps s (toggleSupply p s) := by cases p <;> exact hs.same
    exact safe_of_next h (safe_pinEvent hp (by cases p <;> rfl) hp.supplyChange)
  | rxDataByte n d p a b => exact safe_of_next h (safe_rxdLevel fun _ k => k.frameSampled)
  | rxBreak n => exact safe_of_next h (safe_rxdLevel (high := fun _ => false) fun _ k => k.deliverBreak)
  | rxdStartEdge n => exact safe_of_next h (safe_rxdLevel (high := fun _ => false) fun _ k => k.modCh)
  | rxFalseStart n | rxdMarkReturn n => exact safe_of_next h (safe_rxdLevel (high := fun _ => true) fun _ k => k.modCh)
  | inrushTimerExpiry n => exact safe_of_next h (safe_expiry hs.inrushExpires)
  | powerGoodTimerExpiry n => exact safe_of_next h (safe_expiry hs.powerGoodExpires)
  | resetTimerExpiry n | gateTimerExpiry n => exact safe_of_next h (safe_expiry hs.modSq.gateCheck)
  | bootTimerExpiry n => exact safe_of_next h (safe_expiry hs.bootExpires)
  | buttonTimerExpiry n => exact safe_of_next h (safe_expiry hs.modSq)
  | stopTimerExpiry n => exact safe_of_next h (safe_expiry hs.stopExpires)
  | nmiTimerExpiry n => exact safe_of_next h (safe_expiry hs.nmiExpires)
  | dwellTimerExpiry n => exact safe_of_next h (safe_expiry hs.changeState)
  | admissionTimerExpiry n => exact safe_of_next h (safe_expiry hs.admissionExpires)
  | staggerTimerExpiry => exact safe_of_next h (safe_expiry hs.staggerExpires)
  | heartbeatWindowExpiry n => exact safe_of_next h (safe_blockEvent (Keeps.ite hs.hbExpires hs))
  | silenceWindowExpiry n => exact safe_of_next h (safe_blockEvent (Keeps.ite hs.silExpires hs))
  | idleFlushTimerExpiry n => exact safe_of_next h (safe_expiry hs.modCh.endRequest)
  | holdoffTimerExpiry i n => exact safe_of_next h (safe_expiry hs.modPair)
  | waitTimerExpiry n => exact safe_of_next h (safe_expiry hs.waitExpires)
  | flushAgeExpiry f => exact safe_of_next h (safe_expiry hs.ageExpires)
  | stringItemSent n => exact safe_of_next h (safe_blockEvent hs.stringSent)
  | breakItemEnd n => exact safe_of_next h (safe_blockEvent hs.breakSent)
  | breakGuardEnd n => exact safe_of_next h (safe_blockEvent hs.modCh)

/-- Every step keeps the three invariants. -/
theorem step_safe (h : step s = .next t) : Safe s t := by
  unfold step at h
  split at h
  · cases h; exact safe_tick s
  · next rest _ =>
    have hqueue : Safe s { s with pending := rest } := safe_of_same rfl rfl rfl rfl
    exact hqueue.trans (exec_safe h)

end

/-- Settles O55: only an allocation gives a frame an owner, and only one that no frame has. -/
theorem stepKeepsFrameTags : Obligations.StepKeepsFrameTags :=
  fun _ _ hu h => (step_safe h).tags hu

/-- Settles O57: the end of every event settles the wait timers, and a port that is kept idle takes no command. -/
theorem stepKeepsPorts : Obligations.StepKeepsPorts :=
  fun _ _ h => ⟨(step_safe h).waits, (step_safe h).ports⟩

/-! ### ATTACH and DETACH (R141 to R145) -/

section
variable {s t : State} {n : NodeId}

/-- A change that leaves what DATA looks at, and the wait timers, leaves them settled. -/
theorem waitsSettled_of_flags (h : WaitsSettled s) (hp : ∀ m, (t.node m).port.cmd = (s.node m).port.cmd ∧
      (t.node m).port.rst = (s.node m).port.rst ∧ (t.node m).port.waitT = (s.node m).port.waitT)
    (hf : t.frames = s.frames) : WaitsSettled t := by
  intro m
  obtain ⟨hc, hr, ht⟩ := hp m
  have hg (f : FrameId) : t.frame f = s.frame f := by simp only [State.frame, hf]
  rw [ht, h m, waiting_congr hc hr (fun f => by rw [hg]) fun f => by rw [hg]]

/-- R161: the post of an order that passes its checks, changes one node but for its sequencer and its command, and
completes at once. -/
theorem does_nodeOrder {c : Instr} {k : SlotId} {code target flags : Byte} {a : OrderAction} {g : Node → Node}
    (ho : Operating s) (hk : (s.slot k).st ≠ .accepted)
    (he : exec c s = .next (finish s (postOrder s k code target flags)))
    (hcheck : ∀ st b, checkOrder s (postedCopy s k code target flags st b) = .ok a)
    (hrun : ∀ x, runAction (afterPost s k code target flags x) k a =
      slotDone ((afterPost s k code target flags x).modNode n g) k .complete 0)
    (hsq : ∀ d, (g d).sq = d.sq)
    (hport : ∀ d, (g d).port.cmd = d.port.cmd ∧ (g d).port.rst = d.port.rst ∧ (g d).port.waitT = d.port.waitT) :
    Does c s (doneIn (s.modNode n g) k code target flags)
      (postRuns s k code target flags ++ doneRuns s k .complete 0) := by
  have hpost := postOrder_eq (s := s) (k := k) code target flags ho.1 hk
  rw [hcheck] at hpost
  simp only [hrun] at hpost
  rw [hpost] at he
  have hnode (m : NodeId) : (doneIn (s.modNode n g) k code target flags).node m = (s.modNode n g).node m := rfl
  refine does_of_effect he ?_ ?_ (.inl fun m => ?_) (waitsSettled_of_flags ho.2 (fun m => ?_) rfl)
  · simp only [Becomes, slotDone_eq, afterPost, doneIn, setAttn_eq, State.modSlot, State.modNode, State.store, vmod_vmod]
    rfl
  · have hw (x : SlotCopy) : Writes s ((afterPost s k code target flags x).modNode n g) (postRuns s k code target flags) :=
      writes_post (c := x) rfl
    exact writes_append (hw _) (writes_slotDone _ _ _ _)
  · rw [hnode, State.modNode_node]; split
    · rw [hsq]; exact ⟨rfl, .inr rfl⟩
    · exact ⟨rfl, .inr rfl⟩
  · rw [hnode, State.modNode_node]; split
    · exact hport _
    · exact ⟨rfl, rfl, rfl⟩

/-- R142: an ATTACH at a node with no attachment, with figures in range, passes its checks. -/
theorem checkOrder_attach {c : SlotCopy} {g : AttachFigures} (hcode : c.code = 0x30) (htarget : c.target = nodeByte n)
    (hflags : c.flags = 0) (hp : attachOf c.params = some g) (hst : (s.node n).att.st = .none) :
    checkOrder s c = .ok (.attach n g) := by
  have ho : orderCodeOf 0x30 = some .attach := rfl
  simp only [checkOrder, hcode, ho, htarget, targetOf_nodeByte, checkNodeOrder, checkAttach, withParams, hflags, hp, hst,
    ne_eq, reduceCtorEq, not_true_eq_false, if_false]

/-- R143: a DETACH, plain or forced, at an attached node passes its checks. -/
theorem checkOrder_detach {c : SlotCopy} {flags : Byte} (hcode : c.code = 0x31) (htarget : c.target = nodeByte n)
    (hflags : c.flags = flags) (hf : flags = 0 ∨ flags = flagForce) (hst : (s.node n).att.st = .attached) :
    checkOrder s c = .ok (.detach n (if flags &&& flagForce ≠ 0 then .force else .plain)) := by
  have ho : orderCodeOf 0x31 = some .detach := rfl
  have hown : flags &&& ~~~flagForce = 0 := by rcases hf with rfl | rfl <;> rfl
  simp only [checkOrder, hcode, ho, htarget, targetOf_nodeByte, checkNodeOrder, checkDetach, hflags, hst, hown, ne_eq,
    reduceCtorEq, not_true_eq_false, false_and, if_false, decide_eq_true_eq]

/-- R142: an ATTACH at a node with no layout, which takes no marker. -/
theorem installAttachment_no_layout (hl : (s.node n).jr.layout = none) (g : AttachFigures) :
    installAttachment s n g = s.modNode n fun d =>
      { d with
        att := { d.att with st := .attached, fig := g, attachNumber := d.att.attachNumber + 1 },
        port := { d.port with changed := true } } := by
  unfold installAttachment; dsimp only
  rw [marker_none _ _ (by simpa using hl), State.modAtt_eq, State.modPort_eq, State.modNode_modNode]

/-- A node that owns no frame. -/
theorem ownedBy_of_ownedCount (h : s.ownedCount n = 0) (f : FrameId) : (s.frame f).ownedBy n = false := by
  have hmem : s.frame f ∈ s.frames.toList := Vector.mem_toList_iff.mpr (Vector.getElem_mem f.isLt)
  simpa using List.countP_eq_zero.mp h _ hmem

/-- Steps of which each leaves a state leave it together. -/
theorem foldl_fixed {α : Type} {f : State → α → State} (h : ∀ x, f s x = s) (xs : List α) : xs.foldl f s = s := by
  induction xs with
  | nil => rfl
  | cons x xs ih => rw [List.foldl_cons, h, ih]

/-- No frame of the node satisfies the condition. -/
theorem freeWhere_none {p : State → FrameId → Bool} (h : ∀ f, ((s.frame f).ownedBy n && p s f) = false) :
    freeWhere s n p = s :=
  foldl_fixed (fun f => by rw [h]; rfl) _

theorem freeIdleFrames_none (h : s.ownedCount n = 0) : freeIdleFrames s n = s := by
  have hnone (p : State → FrameId → Bool) : freeWhere s n p = s :=
    freeWhere_none fun f => by rw [ownedBy_of_ownedCount h]; rfl
  unfold freeIdleFrames; rw [hnone, hnone]

theorem discardFrames_none (h : s.ownedCount n = 0) : discardFrames s n = s := by
  have hcount : (allFrames.countP fun f => (s.frame f).ownedBy n && isDiscarded s f) = 0 :=
    List.countP_eq_zero.mpr fun f _ => by simp [ownedBy_of_ownedCount h f]
  unfold discardFrames; dsimp only
  rw [hcount, freeWhere_none fun f => by rw [ownedBy_of_ownedCount h]; rfl]
  exact modNode_of_fixed rfl

theorem detachPrefetch_idle (h : (s.node n).sq.prefetch ≠ .waiting) : detachPrefetch s n = s := by
  unfold detachPrefetch; rw [if_neg h]

theorem flushAll_nil (h : (s.node n).att.dirty = []) : flushAll s n = s := by unfold flushAll; rw [h]; rfl

/-- R145: a DETACH completes once its node owns no frame. -/
theorem detachCheck_completes (hst : (s.node n).att.st = .detaching) (hown : s.ownedCount n = 0)
    (hl : (s.node n).jr.layout = none) :
    detachCheck s n = slotDone (s.modAtt n fun a => { a with st := .none, detach := none })
      (Fin.ofNat 32 (s.node n).att.detachSlot) .complete (BitVec.ofNat 32 (s.node n).att.discarded) := by
  unfold detachCheck; dsimp only
  rw [if_pos ⟨hst, hown⟩, marker_none _ _ (by simpa using hl)]

theorem detachCheck_idle (h : (s.node n).att.st ≠ .detaching) : detachCheck s n = s := by
  unfold detachCheck; exact if_neg fun hd => h hd.1

/-- R144, R145: a DETACH at a node that owns no frame, with nothing to end or to wait for, completes at once. -/
theorem beginDetach_idle (hown : s.ownedCount n = 0) (hdirty : (s.node n).att.dirty = [])
    (hcmd : (s.node n).port.cmd = none) (hwaits : s.waits = []) (hpre : (s.node n).sq.prefetch ≠ .waiting)
    (hl : (s.node n).jr.layout = none) (k : SlotId) (kind : DetachKind) :
    beginDetach s n k.val kind = slotDone (s.modNode n fun d =>
      { d with
        att := { d.att with st := .none, detach := none, detachSlot := k.val, discarded := 0 },
        port := { d.port with changed := true } }) k .complete 0 := by
  have hslot : Fin.ofNat 32 k.val = k := Fin.ext (Nat.mod_eq_of_lt k.isLt)
  have hkind (t : State) (h : t.ownedCount n = 0) : (if kind = .force then discardFrames t n else t) = t := by
    rw [discardFrames_none h, ite_self]
  have hflush (t : State) (h : (t.node n).att.dirty = []) : (if kind = .plain then flushAll t n else t) = t := by
    rw [flushAll_nil h, ite_self]
  unfold beginDetach; dsimp only
  rw [detachPrefetch_idle (by simpa using hpre), hkind _ (by exact hown), endCommand_none _ _ (by simpa using hcmd),
    freeIdleFrames_none (by exact hown), hflush _ (by simpa using hdirty), retryWaits_nil _ (by exact hwaits),
    detachCheck_completes (by simp) (by exact hown) (by simpa using hl)]
  simp only [State.modAtt_eq, State.modPort_eq, State.modNode_modNode, State.modNode_node_self, hslot]
  rfl

end

/-- Settles O36: the post of each order, by what its action makes of the node. -/
theorem attachAndDetach : Obligations.AttachAndDetach := by
  refine ⟨fun s k n g ho hk hst hl hp => ?_, fun s k n flags ho hk hflags hst hown hdirty hcmd hwaits hpre hl => ?_⟩
  · refine does_nodeOrder ho hk rfl (fun _ _ => checkOrder_attach rfl rfl rfl hp hst) (fun x => ?_) (fun _ => rfl)
      fun _ => ⟨rfl, rfl, rfl⟩
    show slotDone (installAttachment (afterPost s k 0x30 (nodeByte n) 0 x) n g) k .complete 0 = _
    rw [installAttachment_no_layout (s := afterPost s k 0x30 (nodeByte n) 0 x) hl]
  · refine does_nodeOrder ho hk rfl (fun _ _ => checkOrder_detach rfl rfl rfl hflags hst) (fun x => ?_) (fun _ => rfl)
      fun _ => ⟨rfl, rfl, rfl⟩
    have hnot : ((afterPost s k 0x31 (nodeByte n) flags x).node n).att.st ≠ .detaching := by
      rw [show ((afterPost s k 0x31 (nodeByte n) flags x).node n).att.st = .attached from hst]; decide
    show acceptDetach (afterPost s k 0x31 (nodeByte n) flags x) n k.val _ = _
    unfold acceptDetach
    rw [if_neg hnot]
    exact beginDetach_idle (s := afterPost s k 0x31 (nodeByte n) flags x) hown hdirty hcmd hwaits hpre hl k _

/-! ### Events that change one frame of an idle node (R153, R155 to R158) -/

section
variable {s t : State} {n : NodeId} {f : FrameId} {tag : Nat}

/-- R153: a change of a frame, which keeps its owner or becomes FREE, is seen by no port but its owner's, where no command
is in progress. -/
theorem waitsSettled_of_frame {x : Frame → Frame} {g : Node → Node} (h : WaitsSettled s)
    (hown : (s.frame f).own = some (n, tag)) (hf : t.frames = vmod s.frames f x) (hn : t.nodes = vmod s.nodes n g)
    (hx : (x (s.frame f)).own = some (n, tag) ∨ (x (s.frame f)).own = none)
    (hg : (g (s.node n)).port.cmd = none ∧ (g (s.node n)).port.waitT = none) : WaitsSettled t := by
  have hframe (y : FrameId) : t.frame y = if y = f then x (s.frame y) else s.frame y := by
    simp only [State.frame, hf, vmod_get]
  have hnode (m : NodeId) : t.node m = if m = n then g (s.node m) else s.node m := by
    simp only [State.node, hn, vmod_get]
  intro m
  by_cases hm : m = n
  · subst hm
    obtain ⟨hc, hw⟩ := hg
    rw [State.waiting, hnode, if_pos rfl, hc, hw]; rfl
  · have hport : t.node m = s.node m := by rw [hnode, if_neg hm]
    have hother (y : FrameId) (c : Nat) : ((t.frame y).own = some (m, c)) = ((s.frame y).own = some (m, c)) := by
      by_cases hy : y = f
      · subst hy
        have hne (k : Nat) : some (n, k) ≠ some (m, c) := fun e => hm (congrArg Prod.fst (Option.some.inj e)).symm
        rw [hframe, if_pos rfl, hown]
        rcases hx with hx | hx <;> simp [hx, hne]
      · rw [hframe, if_neg hy]
    have hcounter (c : PortCmd) : t.counterFrame m c = s.counterFrame m c := by
      simp only [State.counterFrame, State.owned, hother]
    have hst (c : PortCmd) (y : FrameId) (hy : s.counterFrame m c = some y) : t.frame y = s.frame y := by
      have hmine : (s.frame y).own = some (m, c.tag) := by simpa using List.find?_some hy
      rw [hframe, if_neg]
      rintro rfl
      rw [hown] at hmine
      exact hm (congrArg Prod.fst (Option.some.inj hmine)).symm
    have hdata : t.data m = s.data m := by
      unfold State.data
      simp only [hport, hcounter]
      cases (s.node m).port.cmd with
      | none => rfl
      | some c =>
        cases hy : s.counterFrame m c with
        | none => simp only [hy]
        | some y => simp only [hy, hst c y hy]
    simpa only [State.waiting, hport, hdata] using h m

/-- A change of a frame and of its owner, but for the owner's sequencer, is the whole of its event. -/
theorem does_frameChange {c : Instr} {u : State} {x : Frame → Frame} {g : Node → Node} (ho : Operating s)
    (he : exec c s = .next (finish s u)) (hm : u.mem = s.mem) (hown : (s.frame f).own = some (n, tag))
    (hf : u.frames = vmod s.frames f x) (hn : u.nodes = vmod s.nodes n g) (hsq : ∀ d, (g d).sq = d.sq)
    (hx : (x (s.frame f)).own = some (n, tag) ∨ (x (s.frame f)).own = none)
    (hg : (g (s.node n)).port.cmd = none ∧ (g (s.node n)).port.waitT = none) : Does c s u [] := by
  refine does_of_effect he (becomes_refl _) (writes_nil hm) (.inl fun m => ?_)
    (waitsSettled_of_frame ho.2 hown hf hn hx hg)
  have hq : (u.node m).sq = (s.node m).sq := by
    simp only [State.node, hn, vmod_get]; split
    · exact hsq _
    · rfl
  rw [hq]; exact ⟨rfl, .inr rfl⟩

/-- R153: while the part runs, no wait timer runs where no command is in progress. -/
theorem waitT_of_idle (h : WaitsSettled s) (hc : (s.node n).port.cmd = none) : (s.node n).port.waitT = none := by
  simpa [State.waiting, hc] using h n

end

/-! ### Returns (R155 to R157) -/

section
variable {s : State} {n : NodeId} {f : FrameId} {e : EntryId} {tag : Nat}

/-- R156, R157: a return, by the state of its entry. -/
theorem writeEntryState_fetch_filled (hi : s.init = false) (h : (s.entry e).st = .fetchPosted) :
    writeEntryState s e 3 = fillReturned s e := by simp [writeEntryState, hi, h]

theorem writeEntryState_fetch_failed (hi : s.init = false) (h : (s.entry e).st = .fetchPosted) :
    writeEntryState s e 5 = fetchReturnedFailed s e := by simp [writeEntryState, hi, h]

theorem writeEntryState_flush_flushed (hi : s.init = false) (h : (s.entry e).st = .flushPosted) :
    writeEntryState s e 4 = flushReturned s e := by simp [writeEntryState, hi, h]

theorem writeEntryState_flush_failed (hi : s.init = false) (h : (s.entry e).st = .flushPosted) :
    writeEntryState s e 5 = flushReturnedFailed s e := by simp [writeEntryState, hi, h]

theorem ownerOf_eq (h : (s.frame f).own = some (n, tag)) : s.ownerOf f = (n, tag) := by
  unfold State.ownerOf; rw [h]; rfl

theorem gateCheck_idle (h : (s.node n).sq.pst ≠ .gated) : gateCheck s n = s := by
  unfold gateCheck; exact if_neg fun hg => h hg.1

theorem lateFill_fresh (h : (s.frame f).expired = false) : lateFill s f n = s := by
  unfold lateFill; rw [h]; rfl

theorem prefetchFilled_idle (h : (s.node n).sq.prefetch ≠ .waiting) : prefetchFilled s n tag = s := by
  unfold prefetchFilled; exact if_neg fun hp => h hp.2

theorem stopWait_idle (h : (s.node n).port.cmd = none) : stopWait s n f = s := by unfold stopWait; rw [h]

/-- No frame is held at a port with no command. -/
theorem held_idle (hown : (s.frame f).own = some (n, tag)) (hcmd : (s.node n).port.cmd = none) : s.held f = false := by
  simp only [State.held, hown, hcmd]

/-- R155: with nothing waiting, a return leaves its entry FREE and does nothing more. -/
theorem afterReturn_idle (hlist : s.waitList = []) (hwaits : s.waits = []) (hst : (s.node n).att.st = .attached) :
    afterReturn s e n = s.modEntry e fun x => { x with st := .free } := by
  have hserve : freeEntryServe s e = s.modEntry e fun x => { x with st := .free } := by
    unfold freeEntryServe serveWaitList
    simp only [State.modEntry_waitList, hlist]
  unfold afterReturn
  rw [hserve, retryWaits_nil _ (by exact hwaits), detachCheck_idle (by simp [hst])]

/-- R147: a frame has become CLEAN and stands at the tail of the clean list, its entry FREE. -/
def returnedClean (s : State) (e : EntryId) (f : FrameId) : State :=
  { (s.modEntry e fun x => { x with st := .free }).modFrame f fun x => { x with st := .clean, ageT := none } with
    clean := s.clean.filter (· ≠ f) ++ [f] }

theorem does_returnedClean {c : Instr} (ho : Operating s) (he : exec c s = .next (finish s (returnedClean s e f)))
    (hown : (s.frame f).own = some (n, tag)) (hidle : (s.node n).port.cmd = none ∧ (s.node n).port.waitT = none) :
    Does c s (returnedClean s e f) [] :=
  does_frameChange (x := fun x => { x with st := .clean, ageT := none }) ho he rfl hown rfl (vmod_id _ _).symm
    (fun _ => rfl) (.inl hown) hidle

/-- R156: a fetch FILLED. -/
theorem fillReturned_idle (hf : (s.entry e).frame = f) (hown : (s.frame f).own = some (n, tag))
    (hfresh : (s.frame f).expired = false) (hst : (s.node n).att.st = .attached)
    (hpre : (s.node n).sq.prefetch ≠ .waiting) (hgate : (s.node n).sq.pst ≠ .gated) (hlist : s.waitList = [])
    (hwaits : s.waits = []) : fillReturned s e = returnedClean s e f := by
  have hnot : (s.node n).att.st ≠ .detaching := by rw [hst]; decide
  unfold fillReturned
  simp only [hf, ownerOf_eq hown, lateFill_fresh hfresh, if_neg hnot]
  rw [prefetchFilled_idle (s := makeClean s f) hpre, afterReturn_idle (s := makeClean s f) hlist hwaits hst,
    gateCheck_idle (by exact hgate)]
  rfl

/-- R157: a flush FLUSHED. -/
theorem flushReturned_idle (hf : (s.entry e).frame = f) (hown : (s.frame f).own = some (n, tag))
    (hst : (s.node n).att.st = .attached) (hcmd : (s.node n).port.cmd = none) (hlist : s.waitList = [])
    (hwaits : s.waits = []) : flushReturned s e = returnedClean s e f := by
  have hnot : (s.node n).att.st ≠ .detaching := by rw [hst]; decide
  unfold flushReturned
  simp only [hf, ownerOf_eq hown, if_neg hnot]
  rw [flushCheck_none (makeClean s f) n hcmd, afterReturn_idle (s := makeClean s f) hlist hwaits hst]
  rfl

/-- R146: an owned frame becomes FREE. -/
theorem freeFrame_owned (hown : (s.frame f).own = some (n, tag)) : freeFrame s f =
    { s.modFrame f fun x => { x with st := .free, own := none, expired := false, ageT := none } with
      clean := s.clean.filter (· ≠ f), waitList := s.waitList.filter fun r => r.frame ≠ f }.modNode n fun d =>
        { d with att := { d.att with dirty := d.att.dirty.filter (· ≠ f) } } := by
  unfold freeFrame; simp only [hown]; rfl

/-- What a failed transfer of an entry leaves recorded (R141). -/
def failureOf (s : State) (e : EntryId) (k : TransferKind) (tag : Nat) : Failure :=
  { kind := k, tag := tag, result := (s.entry e).result }

/-- A frame that has become FREE (R146). -/
def freedFrame (x : Frame) : Frame := { x with st := .free, own := none, expired := false, ageT := none }

/-- The attachment after a fetch of a frame has failed (R156). -/
def withFetchFailure (a : Attachment) (f : FrameId) (x : Failure) : Attachment :=
  { a with dirty := a.dirty.filter (· ≠ f), fetchFailures := bump 65535 a.fetchFailures, lastFailure := some x }

/-- R156: a frame freed and its failed fetch counted, its entry FREE. -/
def fetchFailed (s : State) (e : EntryId) (f : FrameId) (n : NodeId) (tag : Nat) : State :=
  { (s.modEntry e fun x => { x with st := .free }).modFrame f freedFrame with
    clean := s.clean.filter (· ≠ f) }.modNode n fun d =>
      { d with att := withFetchFailure d.att f (failureOf s e .fetch tag) }

theorem does_fetchFailed {c : Instr} (ho : Operating s) (he : exec c s = .next (finish s (fetchFailed s e f n tag)))
    (hown : (s.frame f).own = some (n, tag)) (hidle : (s.node n).port.cmd = none ∧ (s.node n).port.waitT = none) :
    Does c s (fetchFailed s e f n tag) [] :=
  does_frameChange (x := freedFrame)
    (g := fun d => { d with att := withFetchFailure d.att f (failureOf s e .fetch tag) })
    ho he rfl hown rfl rfl (fun _ => rfl) (.inr rfl) hidle

/-- R156: a fetch FAILED. -/
theorem fetchReturnedFailed_idle (hf : (s.entry e).frame = f) (hown : (s.frame f).own = some (n, tag))
    (hst : (s.node n).att.st = .attached) (hcmd : (s.node n).port.cmd = none) (hlist : s.waitList = [])
    (hwaits : s.waits = []) : fetchReturnedFailed s e = fetchFailed s e f n tag := by
  unfold fetchReturnedFailed recordFailure
  simp only [hf, ownerOf_eq hown, held_idle hown hcmd, freeFrame_owned hown, hlist, Bool.false_eq_true, if_false,
    State.modAtt_eq, State.modNode_modNode]
  rw [afterReturn_idle (by rfl) (by exact hwaits) (by rw [State.modNode_node_self]; exact hst)]
  simp only [fetchFailed, State.modNode, State.modFrame, State.modEntry, hlist]
  rfl

/-- A frame that has become DIRTY (R147). -/
def dirtyFrame (now : Word) (ageMs : Nat) (x : Frame) : Frame :=
  { x with st := .dirty, dirtySince := now, ageT := some (Timer.start ageMs) }

/-- R147, R158: a frame becomes DIRTY within the limit of its node. -/
theorem joinDirty_within (h : ((s.node n).att.dirty.filter (· ≠ f) ++ [f]).length < (s.node n).att.fig.dirtyLimit) :
    joinDirty s n f =
    { s.modFrame f (dirtyFrame s.msclk (s.node n).att.fig.flushAgeMs) with
      clean := s.clean.filter (· ≠ f) }.modNode n fun d =>
        { d with att := { d.att with dirty := d.att.dirty.filter (· ≠ f) ++ [f] } } := by
  unfold joinDirty; dsimp only
  rw [if_neg]
  · rfl
  · rw [State.modAtt_eq, State.modNode_node_self]
    exact Nat.not_le_of_lt h

/-- R157: a flush FAILED is counted and recorded. -/
def flushFailureCounted (s : State) (e : EntryId) (n : NodeId) (tag : Nat) : State :=
  recordFailure (s.modAtt n fun a => { a with flushFailures := bump 65535 a.flushFailures }) e n tag .flush

/-- R157: where no command is in progress and no DETACH, a flush FAILED makes its frame DIRTY again. -/
theorem flushReturnedFailed_eq (hf : (s.entry e).frame = f) (hown : (s.frame f).own = some (n, tag))
    (hcmd : (s.node n).port.cmd = none) (hdet : (s.node n).att.detach = none)
    (hlimit : ((s.node n).att.dirty.filter (· ≠ f) ++ [f]).length < (s.node n).att.fig.dirtyLimit) :
    flushReturnedFailed s e = afterReturn (joinDirty (flushFailureCounted s e n tag) n f) e n := by
  have hnode : ((flushFailureCounted s e n tag).node n).port.cmd = none ∧
      ((flushFailureCounted s e n tag).node n).att.detach = none ∧
      ((flushFailureCounted s e n tag).node n).att.dirty = (s.node n).att.dirty ∧
      ((flushFailureCounted s e n tag).node n).att.fig = (s.node n).att.fig := by
    simp [flushFailureCounted, recordFailure, hcmd, hdet]
  have hunfold : flushReturnedFailed s e = afterReturn
      (if ((flushFailureCounted s e n tag).node n).att.detach = some .force then
        (freeFrame (flushFailureCounted s e n tag) f).modAtt n fun a => { a with discarded := a.discarded + 1 }
      else
        let u := joinDirty (stopWait (flushFailureCounted s e n tag) n f) n f
        let u := if flushing (u.node n) then endCommand u n .imageError else u
        if (u.node n).att.detach = some .plain then requestFlush u f else u) e n := by
    unfold flushReturnedFailed
    simp only [hf, ownerOf_eq hown]
    rfl
  revert hnode hunfold
  generalize flushFailureCounted s e n tag = u
  intro ⟨hcmd', hdet', hdirty', hfig'⟩ hunfold
  have hjoined := joinDirty_within (s := u) (n := n) (f := f) (by rw [hdirty', hfig']; exact hlimit)
  have hidle : flushing ((joinDirty u n f).node n) = false := by
    rw [hjoined, State.modNode_node_self]
    show flushing { u.node n with att := _ } = false
    simp only [flushing, hcmd']
  have hkept : ((joinDirty u n f).node n).att.detach = none := by
    rw [hjoined, State.modNode_node_self]; exact hdet'
  rw [hunfold, hdet', stopWait_idle hcmd']
  simp only [hidle, hkept, reduceCtorEq, Bool.false_eq_true, if_false]

/-- The attachment after a flush of a frame has failed (R157). -/
def withFlushFailure (a : Attachment) (f : FrameId) (x : Failure) : Attachment :=
  { a with dirty := a.dirty.filter (· ≠ f) ++ [f], flushFailures := bump 65535 a.flushFailures, lastFailure := some x }

/-- R157: a frame DIRTY again and its failed flush counted, its entry FREE. -/
def flushFailed (s : State) (e : EntryId) (f : FrameId) (n : NodeId) (tag : Nat) : State :=
  { (s.modEntry e fun x => { x with st := .free }).modFrame f (dirtyFrame s.msclk (s.node n).att.fig.flushAgeMs) with
    clean := s.clean.filter (· ≠ f) }.modNode n fun d =>
      { d with att := withFlushFailure d.att f (failureOf s e .flush tag) }

theorem does_flushFailed {c : Instr} (ho : Operating s) (he : exec c s = .next (finish s (flushFailed s e f n tag)))
    (hown : (s.frame f).own = some (n, tag)) (hidle : (s.node n).port.cmd = none ∧ (s.node n).port.waitT = none) :
    Does c s (flushFailed s e f n tag) [] :=
  does_frameChange (x := dirtyFrame s.msclk (s.node n).att.fig.flushAgeMs)
    (g := fun d => { d with att := withFlushFailure d.att f (failureOf s e .flush tag) })
    ho he rfl hown rfl rfl (fun _ => rfl) (.inl hown) hidle

/-- R157: a flush FAILED puts its frame back on the dirty list, within the limit. -/
theorem flushReturnedFailed_idle (hf : (s.entry e).frame = f) (hown : (s.frame f).own = some (n, tag))
    (hst : (s.node n).att.st = .attached) (hcmd : (s.node n).port.cmd = none) (hlist : s.waitList = [])
    (hwaits : s.waits = []) (hdet : (s.node n).att.detach = none)
    (hlimit : ((s.node n).att.dirty.filter (· ≠ f) ++ [f]).length < (s.node n).att.fig.dirtyLimit) :
    flushReturnedFailed s e = flushFailed s e f n tag := by
  have hnode : (flushFailureCounted s e n tag).node n = { s.node n with
      att := { (s.node n).att with
        flushFailures := bump 65535 (s.node n).att.flushFailures,
        lastFailure := some { kind := .flush, tag := tag, result := (s.entry e).result } } } := by
    simp [flushFailureCounted, recordFailure]
  have hjoined := joinDirty_within (s := flushFailureCounted s e n tag) (n := n) (f := f) (by rw [hnode]; exact hlimit)
  rw [flushReturnedFailed_eq hf hown hcmd hdet hlimit, afterReturn_idle]
  · rw [hjoined, hnode]
    simp only [flushFailureCounted, flushFailed, recordFailure, State.modAtt, State.modNode, State.modFrame, State.modEntry,
      vmod_vmod]
    rfl
  · rw [hjoined]; exact hlist
  · rw [hjoined]; exact hwaits
  · rw [hjoined, State.modNode_node_self]
    show ((flushFailureCounted s e n tag).node n).att.st = .attached
    rw [hnode]; exact hst

end

/-- Settles O37, return by return. -/
theorem transferReturns : Obligations.TransferReturns := by
  intro s e f n tag ho hf hown hfresh hst hcmd hpre hgate hlist hwaits freed failure cleaned
  have hidle : (s.node n).port.cmd = none ∧ (s.node n).port.waitT = none := ⟨hcmd, waitT_of_idle ho.2 hcmd⟩
  have hrefused {v : Nat} {c : Instr} (hfree : (s.entry e).st = .free)
      (he : exec c s = .next (finish s (writeEntryState s e v))) : Does c s (refuseWrite s) [] := by
    have hw : writeEntryState s e v = refuseWrite s := by
      simp only [writeEntryState, ho.1, hfree, Bool.false_eq_true, if_false]
    rw [hw] at he
    exact does_of_effect he (becomes_refl _) (writes_nil rfl) (.inl fun _ => ⟨rfl, .inr rfl⟩)
      (waitsSettled_congr ho.2 (fun _ => rfl) rfl)
  refine ⟨fun hp => does_returnedClean ho ?_ hown hidle, fun hp => does_returnedClean ho ?_ hown hidle,
    fun hp => does_fetchFailed ho ?_ hown hidle, fun hp hdet hlimit => does_flushFailed ho ?_ hown hidle,
    fun hp => ⟨hrefused hp rfl, hrefused hp rfl, hrefused hp rfl, hrefused hp rfl⟩⟩
  · rw [← fillReturned_idle hf hown hfresh hst hpre hgate hlist hwaits, ← writeEntryState_fetch_filled ho.1 hp]; rfl
  · rw [← flushReturned_idle hf hown hst hcmd hlist hwaits, ← writeEntryState_flush_flushed ho.1 hp]; rfl
  · rw [← fetchReturnedFailed_idle hf hown hst hcmd hlist hwaits, ← writeEntryState_fetch_failed ho.1 hp]; rfl
  · rw [← flushReturnedFailed_idle hf hown hst hcmd hlist hwaits hdet hlimit, ← writeEntryState_flush_failed ho.1 hp]
    rfl

/-! ### The wait timer and the flush age (R153, R158) -/

section
variable {s : State} {n : NodeId} {f : FrameId} {e : EntryId} {tag : Nat}

/-- A node that owns no frame in a state. -/
theorem ownedIn_none {st : FrameState} (h : s.ownedIn n st = 0) (f : FrameId) :
    ((s.frame f).ownedBy n && decide ((s.frame f).st = st)) = false := by
  have hmem : s.frame f ∈ s.frames.toList := Vector.mem_toList_iff.mpr (Vector.getElem_mem f.isLt)
  simpa using List.countP_eq_zero.mp h _ hmem

/-- R134, R152: a command ends where its node owns no ASSEMBLING frame and no allocation waits. -/
theorem endCommand_idle {c : PortCmd} (hc : (s.node n).port.cmd = some c)
    (hnone : ∀ f, ((s.frame f).ownedBy n && decide ((s.frame f).st = .assembling)) = false) (hwaits : s.waits = [])
    (e : EndCode) :
    endCommand s n e = s.modPort n fun p =>
      { p.ended (byteOf c.kind.code) e s.msclk with done := true, error := e ≠ .none, err := e } := by
  have hassembling (t : State) (h : t.frames = s.frames) : freeAssembling t n = t :=
    foldl_fixed (fun f => by rw [show t.frame f = s.frame f by simp only [State.frame, h], hnone]; rfl) _
  have hdrop (t : State) (h : t.waits = []) : retryWaits (dropWaiter t (.command n)) = t := by
    have hd : dropWaiter t (.command n) = t := by
      unfold dropWaiter; rw [h]; exact congrArg (fun w => { t with waits := w }) h.symm
    rw [hd, retryWaits_nil t h]
  unfold endCommand
  simp only [hc]
  rw [hassembling _ (by rfl), hdrop _ (by exact hwaits)]

/-- R153: the wait timer ends a command with TIMEOUT, and the FILLING frame it waits for is marked expired. -/
theorem waitExpires_filling {c : PortCmd} (hc : (s.node n).port.cmd = some c) (hf : s.counterFrame n c = some f)
    (hst : (s.frame f).st = .filling) (hwaits : s.waits = []) (hnone : s.ownedIn n .assembling = 0) :
    waitExpires s n = (s.modFrame f fun x => { x with expired := true }).modPort n fun p =>
      { p.ended (byteOf c.kind.code) .timeout s.msclk with done := true, error := true, err := .timeout } := by
  have hassembling (g : FrameId) : (((s.modFrame f fun x => { x with expired := true }).frame g).ownedBy n &&
      decide (((s.modFrame f fun x => { x with expired := true }).frame g).st = .assembling)) = false := by
    rw [State.modFrame_frame, ← ownedIn_none hnone g]; split <;> rfl
  unfold waitExpires
  simp only [hc, hf, hst, if_true]
  rw [endCommand_idle (c := c) (by exact hc) hassembling (by exact hwaits)]
  rfl

/-- R155: a flush is posted in a FREE entry. -/
theorem postEntry_flush (hown : (s.frame f).own = some (n, tag)) :
    postEntry s e { kind := .flush, frame := f } =
      setAttn (((s.modEntry e fun x =>
        { x with st := .flushPosted, kind := some .flush, node := n.val, first := tag * 8,
                 count := (s.node n).att.fig.blocksOf tag, offset := frameAddr f, time := s.msclk, frame := f }).modNode n
          fun d => { d with att := { d.att with dirty := d.att.dirty.filter (· ≠ f) } }).modFrame f fun x =>
            { x with st := .flushing, ageT := none }) .transferPosted := by
  unfold postEntry; simp only [hown, Option.getD_some]; rfl

/-- R158: the age of a DIRTY frame posts its flush, where an entry is FREE and no request waits. -/
theorem ageExpires_dirty (hst : (s.frame f).st = .dirty) (hown : (s.frame f).own = some (n, tag)) (hlist : s.waitList = [])
    (he : s.freeEntry = some e) :
    ageExpires s f =
      setAttn (((s.modEntry e fun x =>
        { x with st := .flushPosted, kind := some .flush, node := n.val, first := tag * 8,
                 count := min 8 ((s.node n).att.fig.capacity - tag * 8), offset := 0x50000 + f.val * 4096, time := s.msclk,
                 frame := f }).modNode n fun d =>
          { d with att := { d.att with dirty := d.att.dirty.filter (· ≠ f) } }).modFrame f fun x =>
            { x with st := .flushing, ageT := none }) .transferPosted := by
  have hnew (t : State) (ht : t = s.modFrame f fun x => { x with ageT := none }) :
      requestFlush t f = postEntry t e { kind := .flush, frame := f } := by
    have hdirty : (t.frame f).st = .dirty := by rw [ht, State.modFrame_frame_self]; exact hst
    have hwaits : t.flushWaits f = false := by subst ht; simp [State.flushWaits, hlist]
    have hfree : t.freeEntry = some e := by subst ht; exact he
    unfold requestFlush requestTransfer
    simp only [hdirty, hwaits, hfree, decide_true, Bool.not_false, Bool.and_self, if_true]
  unfold ageExpires
  rw [hnew _ rfl, postEntry_flush (n := n) (tag := tag) (by rw [State.modFrame_frame_self]; exact hown)]
  simp only [State.modFrame, State.modEntry, State.modNode, vmod_vmod]
  rfl

/-- A wait timer that has run out is taken while the part runs. -/
theorem exec_waitTimerExpiry (hi : s.init = false) (h : ranOut (s.node n).port.waitT = true) :
    exec (.waitTimerExpiry n) s = .next (finish s (waitExpires s n)) := by
  show Host.Outcome.next (blockEvent s (whenRanOut _ _)) = _
  rw [blockEvent_run hi, whenRanOut_true _ h]

/-- So is the age of a frame. -/
theorem exec_flushAgeExpiry (hi : s.init = false) (h : ranOut (s.frame f).ageT = true) :
    exec (.flushAgeExpiry f) s = .next (finish s (ageExpires s f)) := by
  show Host.Outcome.next (blockEvent s (whenRanOut _ _)) = _
  rw [blockEvent_run hi, whenRanOut_true _ h]

end

/-- Settles O38, timer by timer. -/
theorem mediaTimers : Obligations.MediaTimers := by
  intro s n c f e tag ho
  refine ⟨fun hran hc hkind hf hst hwaits hnone => ?_, fun hran hst hown hcmd hlist he => ?_⟩
  · have hexec := exec_waitTimerExpiry ho.1 hran
    rw [waitExpires_filling hc hf hst hwaits hnone, hkind] at hexec
    have hown : (s.frame f).own = some (n, c.tag) := by simpa using List.find?_some hf
    exact does_frameChange (x := fun x => { x with expired := true })
      (g := fun d => { d with port :=
        { d.port.ended 0x01 .timeout s.msclk with done := true, error := true, err := .timeout } })
      ho hexec rfl hown rfl rfl (fun _ => rfl) (.inl hown) ⟨rfl, rfl⟩
  · have hexec := exec_flushAgeExpiry ho.1 hran
    rw [ageExpires_dirty hst hown hlist he] at hexec
    exact does_frameChange (x := fun x => { x with st := .flushing, ageT := none })
      (g := fun d => { d with att := { d.att with dirty := d.att.dirty.filter (· ≠ f) } })
      ho hexec rfl hown rfl rfl (fun _ => rfl) (.inl hown) ⟨hcmd, waitT_of_idle ho.2 hcmd⟩

end Sys2Proof.MediaFrames

/-! PROOFS. Order slots: the orders and the FREE that a slot refuses (R160, R162, R163, R170). -/

namespace Sys2Proof.OrderSlots
open Sys2Proof.Machine

section
variable {s : State} {k : SlotId} {code target flags : Byte}

/-! ### An order that its checks refuse (R162, R163) -/

/-- A byte outside section 9.2 is decoded to no order. -/
theorem orderCodeOf_eq_none (h : code ∉ orderCodes) : orderCodeOf code = none := by
  have hcode : code.toNat ∉ orderCodes.map BitVec.toNat := fun hm => by
    obtain ⟨b, hb, he⟩ := List.mem_map.mp hm
    exact h (BitVec.eq_of_toNat_eq he ▸ hb)
  unfold orderCodeOf
  split
  case h_22 => rfl
  all_goals exact absurd (by rw [‹code.toNat = _›]; decide) hcode

/-- R162: the check of the code comes first, before those of the target and the flags. -/
theorem checkOrder_unknown {c : SlotCopy} (h : c.code ∉ orderCodes) : checkOrder s c = refuse .unknownOrder := by
  unfold checkOrder; rw [orderCodeOf_eq_none h]

/-- R163: the post of an order that its checks refuse leaves its slot DONE, with the refusal's result and detail, and changes
nothing else. -/
theorem does_refusedOrder {c : Instr} {r : Refused} (ho : Operating s) (hk : (s.slot k).st ≠ .accepted)
    (he : exec c s = .next (finish s (postOrder s k code target flags)))
    (hcheck : ∀ st b, checkOrder s (postedCopy s k code target flags st b) = .error r) :
    Does c s (doneIn s k code target flags) (postRuns s k code target flags ++ doneRuns s k r.result r.detail) := by
  rw [postOrder_eq code target flags ho.1 hk, hcheck] at he
  refine does_of_effect he ?_ ?_ (.inl fun _ => ⟨rfl, .inr rfl⟩) (waitsSettled_congr ho.2 (fun _ => rfl) rfl)
  · simp only [Becomes, slotDone_eq, afterPost, doneIn, setAttn_eq, State.modSlot, State.store, vmod_vmod]
    rfl
  · exact writes_append (writes_post rfl) (writes_slotDone _ _ _ _)

/-! ### Writes of the state word (R160, R170) -/

/-- A slot refuses writes of its state word in ACCEPTED, and while STAT.INIT is 1. -/
theorem postOrder_refused (h : s.init = true ∨ (s.slot k).st = .accepted) :
    postOrder s k code target flags = refuseWrite s :=
  if_pos (by simpa using h)

/-- FREE is refused as POSTED is. -/
theorem writeFree_refused (h : s.init = true ∨ (s.slot k).st = .accepted) : writeFree s k = refuseWrite s :=
  if_pos (by simpa using h)

/-- R160: to any other slot FREE is stored. -/
theorem writeFree_stored (hi : s.init = false) (hk : (s.slot k).st ≠ .accepted) :
    writeFree s k = s.modSlot k fun c => { c with st := .free } :=
  if_neg (by simp [hi, hk])

/-- A power order is posted with its code of section 9.2. -/
theorem exec_powerCommand (p : PowerCode) :
    exec (p.command k target flags) s = .next (finish s (postOrder s k (byteOf p.code) target flags)) := by
  cases p <;> rfl

/-- FREE written to the state word is one event. -/
theorem exec_slotFree : exec (.slotFree k) s = .next (finish s (writeFree s k)) := rfl

/-- An event that leaves the RAM, the nodes and the frames as they are does what its effect says, and no more. -/
theorem does_of_sameNodes {c : Instr} {u : State} (hw : WaitsSettled s) (he : exec c s = .next (finish s u))
    (hm : u.mem = s.mem) (hn : u.nodes = s.nodes) (hf : u.frames = s.frames) : Does c s u [] := by
  have hnode (n : NodeId) : u.node n = s.node n := by simp only [State.node, hn]
  exact does_of_effect he (becomes_refl _) (writes_nil hm) (.inl fun n => by rw [hnode]; exact ⟨rfl, .inr rfl⟩)
    (waitsSettled_congr hw (fun n => by rw [hnode]) hf)

/-- R170: an event that is a refused write goes on in the count and in ATTN.REFUSED alone. -/
theorem does_refuseWrite {c : Instr} (hw : WaitsSettled s) (he : exec c s = .next (finish s (refuseWrite s))) :
    Does c s (refuseWrite s) [] :=
  does_of_sameNodes hw he rfl rfl rfl

end

/-- Settles O22: the refusal of an unknown code by its first check, the refused writes, and the FREE that is stored. -/
theorem refusedOrdersAndSlots : Obligations.RefusedOrdersAndSlots := by
  refine ⟨fun s k code target flags ho hk hcode => ?_,
    fun s k p target flags hw => ⟨fun href => ⟨?post, ?free⟩, fun hi hk => ?stored⟩⟩
  · exact does_refusedOrder ho hk rfl fun _ _ => checkOrder_unknown hcode
  case post => exact does_refuseWrite hw (by rw [exec_powerCommand, postOrder_refused href])
  case free => exact does_refuseWrite hw (by rw [exec_slotFree, writeFree_refused href])
  case stored => exact does_of_sameNodes hw (by rw [exec_slotFree, writeFree_stored hi hk]) rfl rfl rfl

end Sys2Proof.OrderSlots
